-- ==== Sys2Proof/Config.lean ====
section
/-! DEFINITION. The figures the part fixes, and the free values: constants without a body for what the spec leaves open. -/

namespace Sys2Proof.Config

/-- Attractions served, indexed 0..47 (chapter Attraction Table). -/
abbrev attractions : Nat := 48

/-- Ports (R158). -/
abbrev ports : Nat := 4

/-- Count lines CL0 to CL15 (R52). -/
abbrev lines : Nat := 16

/-- Board entries (R145). -/
abbrev entries : Nat := 64

/-- Pass slots (R110). -/
abbrev slots : Nat := 4096

/-- The most windows a list holds (R86). -/
def maxWindows : Nat := 64

/-- Minutes a CLOSED or VOID window keeps its passes (R97). -/
def retention : Nat := 30

/-- The least frame length in minutes (R9, R12). -/
def leastFrame : Nat := 30

/-- The largest forward step of SET_CLOCK in OPEN and ENDED, in seconds (R4). -/
def largestStep : Nat := 3600

/-- The qualify time selected by a field of 0, in milliseconds (R54). -/
def defaultQualify : Nat := 20

/-- FREE VALUE (log 5). The order of the works of one minute tick: at the choice numbered by the first argument, the
works are taken in rising rank, the second argument being a work's number. R2: the actions 'are not ordered with
respect to one another'. -/
opaque tickRank : Nat → Nat → Nat

/-- FREE VALUE (log 6). The order in which the sixteen lines are taken at one sample: at the choice numbered by the
first argument, in rising rank of the line number. R50: two events for one attraction 'may be taken in either order'. -/
opaque lineRank : Nat → Nat → Nat

/-- FREE VALUE (log 10). The minute of day a TOO_EARLY reply carries (R122) for a window whose start (first argument)
lies before its early grace (second argument), where 'the start less the early grace' (R87) is no minute of the day. -/
opaque openingBeforeDay : Nat → Nat → Fin 1440

end Sys2Proof.Config
end

