-- ==== Sys2Proof/Syntax.lean ====
section
/-! DEFINITION. The commands: one constructor for each row of spec/opcode_table.json. -/

namespace Sys2Proof

/-- A port, 0..3 (R158). -/
abbrev PortNo := Fin Config.ports

/-- An attraction index, 0..47 (R20). -/
abbrev AttrNo := Fin Config.attractions

/-- A count line, 0..15 (R52). -/
abbrev LineNo := Fin Config.lines

/-- A board entry number, 0..63 (R145). -/
abbrev EntryNo := Fin Config.entries

/-- A pass slot number, 0..4095 (R110). -/
abbrev SlotNo := Fin Config.slots

/-- The levels of one port's two strap pins when a reset samples them; true is high (R159). -/
structure Strap where
  pr1 : Bool
  pr0 : Bool
  deriving DecidableEq, Repr

/-- The strap levels of the four ports, Port 0 first (R159). -/
abbrev Straps := Vector Strap Config.ports

/-- The levels of the sixteen count-line inputs at one sample: bit n is CLn, 1 is high (R53). -/
abbrev Levels := BitVec Config.lines

/-- The commands of the block. A request row names the port whose taken request is carried out; its arguments stand
in the frame that port holds (R163 to R165). -/
inductive Instr where
  /-- POWER_ON (R174), with the strap levels sampled. -/
  | powerOn (straps : Straps)
  /-- LINE_RESET (R175), with the strap levels sampled. -/
  | lineReset (straps : Straps)
  /-- SECOND_TICK (R1). -/
  | secondTick
  /-- MINUTE_TICK (R2): the second tick that changes the minute. -/
  | minuteTick
  /-- AGING_TICK (R70): the minute tick at which the attraction's age counter runs out. -/
  | agingTick (attraction : AttrNo)
  /-- RETIREMENT (R97): the minute tick at which the window's retention has run. -/
  | retirement (attraction : AttrNo) (window : Nat)
  /-- QUALIFIED_TRANSITION (R53): the sample at which the line's candidate reaches q. -/
  | qualifiedTransition (line : LineNo) (levels : Levels)
  /-- LINE_ARMING (R56): the sample at which the line arms. -/
  | lineArming (line : LineNo) (levels : Levels)
  /-- FRAME_COMPLETION (R152). -/
  | frameCompletion
  /-- RESYNCHRONISING_GAP_END (R156). -/
  | resynchronisingGapEnd
  /-- PSEL_FALL (R160). -/
  | pselFall (port : PortNo)
  /-- PSEL_RISE (R163), with the bits clocked in on PDI since the fall, first bit first (R158). -/
  | pselRise (port : PortNo) (bits : List Bool)
  /-- STATUS (R180). -/
  | status (port : PortNo)
  /-- ACK_EVENTS (R178). -/
  | ackEvents (port : PortNo)
  /-- SET_EVENTS (R179). -/
  | setEvents (port : PortNo)
  /-- READ_CLOCK (R7). -/
  | readClock (port : PortNo)
  /-- SELECT (R170). -/
  | select (port : PortNo)
  /-- READ_POSTING (R138). -/
  | readPosting (port : PortNo)
  /-- READ_CHANGED (R139). -/
  | readChanged (port : PortNo)
  /-- READ_WINDOWS (R141). -/
  | readWindows (port : PortNo)
  /-- READ_PASS (R125). -/
  | readPass (port : PortNo)
  /-- READ_ATTRACTION (R143). -/
  | readAttraction (port : PortNo)
  /-- SET_CLOCK (R4). -/
  | setClock (port : PortNo)
  /-- FRAME_OPEN (R9). -/
  | frameOpen (port : PortNo)
  /-- FRAME_CLOSE (R12). -/
  | frameClose (port : PortNo)
  /-- CLEAR_DAY (R15). -/
  | clearDay (port : PortNo)
  /-- CONFIGURE (R24). -/
  | configure (port : PortNo)
  /-- RELEASE (R30). -/
  | release (port : PortNo)
  /-- SET_STATE asking for OPERATING (R32). -/
  | setStateOperating (port : PortNo)
  /-- SET_STATE asking for DOWN (R33). -/
  | setStateDown (port : PortNo)
  /-- SET_STATE asking for CLOSED (R35). -/
  | setStateClosed (port : PortNo)
  /-- BIND_LINE with operation BIND (R54). -/
  | bind (port : PortNo)
  /-- BIND_LINE with operation UNBIND (R55). -/
  | unbind (port : PortNo)
  /-- BIND_LINE with operation INQUIRE (R55). -/
  | inquire (port : PortNo)
  /-- BOARD_SET with the valid flag set (R146). -/
  | boardSet (port : PortNo)
  /-- BOARD_SET with the valid flag clear (R147). -/
  | boardSetClear (port : PortNo)
  /-- BOARD_OVERRIDE (R148). -/
  | boardOverride (port : PortNo)
  /-- ENTRY_REPORT (R42). -/
  | entryReport (port : PortNo)
  /-- DISPATCH_REPORT (R43). -/
  | dispatchReport (port : PortNo)
  /-- QUEUE_SET (R46). -/
  | queueSet (port : PortNo)
  /-- ISSUE in mode EARLIEST (R105). -/
  | issueEarliest (port : PortNo)
  /-- ISSUE in mode AT (R106). -/
  | issueAt (port : PortNo)
  /-- REDEEM (R121). -/
  | redeem (port : PortNo)
  /-- CANCEL (R124). -/
  | cancel (port : PortNo)
  /-- A request whose kind byte names no known kind (R168). -/
  | unknownRequest (port : PortNo)
  /-- MILLISECOND_SAMPLE (R53), with the levels of the sixteen inputs. -/
  | millisecondSample (levels : Levels)
  deriving DecidableEq, Repr

end Sys2Proof
end

