-- ==== Sys2Proof/Decode.lean ====
section
/-! DEFINITION. The words of spec/opcode_table.json: the table gives no row any bits. -/

namespace Sys2Proof

/-- The command that a word spells by the table's bits: none, since no row of the table gives bits (log 24). A request's
own bytes are read by `Sys2Proof.Machine.openFrame` and `Sys2Proof.Machine.rowOf` (R165, R168). -/
def decodeTableWord (_nbits _w : Nat) : Option Instr := none

end Sys2Proof
end

