-- ==== Sys2Proof/Word.lean ====
section
/-! DEFINITION. The byte of the port frames and of the sign frame (R165, R183, R188). -/

namespace Sys2Proof

/-- One byte, on a port or on the board line (R183). -/
abbrev Byte := BitVec 8

end Sys2Proof
end

