-- ==== Sys2Proof/Machine/State.lean ====
section
/-! DEFINITION. The state of the part: every piece of state spec/ names, as plain data, and its value after power-on. -/

namespace Sys2Proof.Machine

/-! ## Names -/

/-- The role of a port (R159). -/
inductive Role where
  | view | issue | ride | ops
  deriving DecidableEq, Repr

/-- The state of an attraction, and the marker of a posting (R133, chapter Attraction Table). -/
inductive RideState where
  | unused | closed | operating | down
  deriving DecidableEq, Repr

/-- The frame state UNSET, HALF, ARMED, OPEN, ENDED of the operating day (chapter Park Clock and Day Frame, 1.4). -/
inductive DayState where
  | unset | half | armed | opened | ended
  deriving DecidableEq, Repr

/-- The state of a return window (R87). -/
inductive WindowState where
  | future | opened | slipped | closed | void | spent
  deriving DecidableEq, Repr

/-- The state of a pass (R110). -/
inductive PassState where
  | issued | redeemed | expired | voided
  deriving DecidableEq, Repr

/-- What a count on a line is (R52). -/
inductive LineKind where
  | entry | dispatch
  deriving DecidableEq, Repr

/-- The edge of a line's binding (R52). -/
inductive Edge where
  | rising | falling | both
  deriving DecidableEq, Repr

/-- What a board entry shows (R145). -/
inductive Content where
  | wait | ret
  deriving DecidableEq, Repr

/-- The kind of a sign frame (R149). -/
inductive SignKind where
  | wait | ret | none | down | closed | blank | override
  deriving DecidableEq, Repr

/-! ## Clock -/

/-- A clock reading or a pending clock value (R1, R4). -/
structure Time where
  hours : Nat
  minutes : Nat
  seconds : Nat
  deriving DecidableEq, Repr

/-! ## Attractions -/

/-- The descriptor, in the order of the table of chapter Attraction Table (R20, R186). -/
structure Descriptor where
  /-- planned rate H -/
  rate : Nat
  /-- pass share p -/
  share : Nat
  /-- merge share g -/
  mergeShare : Nat
  /-- window length L -/
  length : Nat
  /-- seats per vehicle -/
  seats : Nat
  fill : Nat
  /-- smoothing shift k -/
  shift : Nat
  /-- floor rate F -/
  floorRate : Nat
  lookAhead : Nat
  /-- show rate s -/
  showRate : Nat
  walkOffset : Nat
  /-- posting step -/
  step : Nat
  maxPosted : Nat
  ageLimit : Nat
  earlyGrace : Nat
  lateGrace : Nat
  minLead : Nat
  deriving DecidableEq, Repr

/-- The descriptor of an UNUSED record (R19, R30). -/
def Descriptor.zero : Descriptor := ⟨0, 0, 0, 0, 0, 0, 0, 0, 0, 0, 0, 0, 0, 0, 0, 0, 0⟩

/-- A return window (R87); its index is its place in the list. -/
structure Window where
  /-- quota C -/
  quota : Nat
  /-- booked B -/
  booked : Nat
  /-- arrived A -/
  arrived : Nat
  state : WindowState
  /-- present in CLOSED, VOID and SPENT -/
  endedAt : Option Nat
  deriving DecidableEq, Repr

/-- All that the blocks hold for one attraction. -/
structure Attraction where
  /-- Attraction Table (R19) -/
  state : RideState
  desc : Descriptor
  generation : Nat
  /-- standby queue Q (R40) -/
  q : Nat
  /-- merge queue M (R40) -/
  m : Nat
  /-- riders this minute, R_min (R40) -/
  riders : Nat
  /-- throughput T, sixteenths of a rider per minute (R62) -/
  throughput : Nat
  ageCounter : Nat
  aged : Bool
  /-- target wait (R62) -/
  target : Nat
  targetOver : Bool
  /-- posted minutes (R62) -/
  posted : Nat
  /-- the window list, absent where the attraction has none (R86) -/
  windows : Option (List Window)
  /-- next-return offer held by the Book (R108) -/
  offer : Option Nat
  deriving DecidableEq, Repr

/-- An UNUSED record, as power-on and RELEASE leave it (R19, R30, R41, R63, R88). -/
def Attraction.unused : Attraction :=
  { state := .unused, desc := .zero, generation := 0, q := 0, m := 0, riders := 0, throughput := 0, ageCounter := 0,
    aged := false, target := 0, targetOver := false, posted := 0, windows := none, offer := none }

/-! ## Passes -/

/-- A pass record (R110). -/
structure Pass where
  attraction : AttrNo
  window : Nat
  party : Nat
  state : PassState
  issuedAt : Nat
  port : PortNo
  /-- present when REDEEMED -/
  redeemedAt : Option Nat
  deriving DecidableEq, Repr

/-- A slot of the pass table: its generation, and its record while it is in use (R110). -/
structure Slot where
  generation : Nat
  pass : Option Pass
  deriving DecidableEq, Repr

/-! ## Postings -/

/-- The fields of a posting whose marker is OPERATING (R133). -/
structure Shown where
  posted : Nat
  overFlag : Bool
  aged : Bool
  nextReturn : Option Nat
  deriving DecidableEq, Repr

/-- A posting record (R133); its index is its place in the table. -/
structure Posting where
  marker : RideState
  shown : Option Shown
  deriving DecidableEq, Repr

/-! ## Count lines -/

/-- The binding of a count line (R52). -/
structure Binding where
  attraction : AttrNo
  kind : LineKind
  edge : Edge
  /-- qualify time q, milliseconds -/
  qualify : Nat
  deriving DecidableEq, Repr

/-- A count line (R52). `level` of an UNARMED line is the level its `count` samples were seen at, and false while the
count is 0 (log 14). The candidate of an ARMED line is at the level opposite to `settled`. -/
inductive Line where
  | unbound
  | unarmed (binding : Binding) (count : Nat) (level : Bool)
  | armed (binding : Binding) (settled : Bool) (candidate : Option Nat)
  deriving DecidableEq, Repr

/-! ## Board line -/

/-- The binding of a valid board entry (R145). -/
structure SignBinding where
  address : Nat
  attraction : AttrNo
  content : Content
  deriving DecidableEq, Repr

/-- A board entry: valid while it has a binding (R145). -/
structure BoardEntry where
  binding : Option SignBinding
  override : Nat
  deriving DecidableEq, Repr

/-- The content of a sign frame as latched (R149, R154); `high` and `low` are its two value bytes (section 11.4). -/
structure SignFrame where
  address : Nat
  kind : SignKind
  high : Nat
  low : Nat
  overFlag : Bool
  aged : Bool
  override : Nat
  deriving DecidableEq, Repr

/-- The board line (R152); `passEnd` marks a frame that ends a refresh pass (R155). -/
inductive Board where
  | idle
  | sending (frame : SignFrame) (passEnd : Bool)
  | resynchronising
  deriving DecidableEq, Repr

/-! ## Ports -/

/-- The link state, with the request in hand or the reply waiting (R160). -/
inductive Link where
  | idle
  | working (request : List Byte)
  | ready (reply : List Byte)
  deriving DecidableEq, Repr

/-- The link state at the fall of PSEL (R160). -/
inductive AtFall where
  | idle | working | ready
  deriving DecidableEq, Repr

/-- A select period in progress: the link state at its fall and the bytes then fixed to be shifted out, zeros following
them (R160). -/
structure Period where
  atFall : AtFall
  out : List Byte
  deriving DecidableEq, Repr

/-- The selection shadow (R170). -/
structure Shadow where
  attraction : AttrNo
  generation : Nat
  length : Nat
  share : Nat
  minLead : Nat
  windowCount : Nat
  deriving DecidableEq, Repr

/-- A port unit (R158 to R182). Bit n - 1 of the three event bytes stands for event kind n (R183). -/
structure Port where
  role : Role
  link : Link
  period : Option Period
  shadow : Option Shadow
  flags : Byte
  enable : Byte
  level : Byte
  /-- the change set (R137) -/
  changed : Vector Bool Config.attractions
  deriving DecidableEq, Repr

/-! ## The machine -/

/-- The state of the part, with the queue of waiting commands. -/
structure State where
  clock : Time
  clockSet : Bool
  pendingClock : Option Time
  day : DayState
  /-- O (R8) -/
  openMinute : Option Nat
  /-- Z (R8) -/
  closeMinute : Option Nat
  attractions : Vector Attraction Config.attractions
  slots : Vector Slot Config.slots
  freeQueue : List SlotNo
  postings : Vector Posting Config.attractions
  lines : Vector Line Config.lines
  entries : Vector BoardEntry Config.entries
  /-- the dirty set (R150) -/
  dirty : Vector Bool Config.entries
  /-- the refresh pointer (R153) -/
  refresh : EntryNo
  board : Board
  ports : Vector Port Config.ports
  /-- the model's own: how many free choices of order have been made (log 12) -/
  choice : Nat
  /-- the commands waiting, first in first out -/
  pending : List Instr
  deriving DecidableEq, Repr

/-- Why a command stops the machine: nothing in the spec does, so there is no reason; a request that fails a check is
answered with a result code and is no fault (R167). -/
inductive Fault where
  deriving DecidableEq, Repr

/-- Why a command has no meaning. -/
inductive Refusal where
  /-- Raised by exec's arm of a row that has no meaning yet; safe. No arm raises it in this model. -/
  | notModelled (mnemonic : String)
  deriving DecidableEq, Repr

/-- The role two strap levels fix (R159). -/
def Strap.role (t : Strap) : Role :=
  match t.pr1, t.pr0 with
  | false, false => .view
  | false, true => .issue
  | true, false => .ride
  | true, true => .ops

/-- A port as a reset leaves it, its change set apart (R174, R175). -/
def Port.fresh (role : Role) (changed : Vector Bool Config.attractions) : Port :=
  { role := role, link := .idle, period := none, shadow := none, flags := 0, enable := 0, level := 0, changed := changed }

/-- The strap levels State.reset takes (DESIGN CHOICE, log 1): Ports 0 to 3 OPS, RIDE, ISSUE and VIEW, as in the worked
sequences of chapters 2 and 7. -/
def resetStraps : Straps := #v[⟨true, true⟩, ⟨true, false⟩, ⟨false, true⟩, ⟨false, false⟩]

/-- The state after power-on with the given strap levels (R3, R8, R19, R41, R52, R63, R88, R110, R112, R133, R137, R145,
R150, R152, R153, R174). -/
def State.powerOn (straps : Straps) : State :=
  { clock := ⟨0, 0, 0⟩
    clockSet := false
    pendingClock := none
    day := .unset
    openMinute := none
    closeMinute := none
    attractions := Vector.replicate _ .unused
    slots := Vector.replicate _ ⟨0, none⟩
    freeQueue := List.finRange Config.slots
    postings := Vector.replicate _ ⟨.unused, none⟩
    lines := Vector.replicate _ .unbound
    entries := Vector.replicate _ ⟨none, 0⟩
    dirty := Vector.replicate _ false
    refresh := 0
    board := .idle
    ports := Vector.ofFn fun p => .fresh (Strap.role straps[p]) (Vector.replicate _ false)
    choice := 0
    pending := [] }

/-- The machine right after power-on, with the straps of log 1 and no command waiting. -/
def State.reset : State := State.powerOn resetStraps

end Sys2Proof.Machine
end

