-- ==== Sys2Proof/Machine/Ops.lean ====
section
/-! DEFINITION. The named operations over the state: reading and writing records, orders, the clock, the pass table. -/

namespace Sys2Proof.Machine

/-! ## Tables -/

/-- A table with a function applied to each record. -/
def mapV {α β : Type} {n : Nat} (f : α → β) (v : Vector α n) : Vector β n :=
  ⟨⟨v.toList.map f⟩, by simp⟩

/-- Two tables joined record by record. -/
def zipV {α β γ : Type} {n : Nat} (f : α → β → γ) (v : Vector α n) (w : Vector β n) : Vector γ n :=
  ⟨⟨List.zipWith f v.toList w.toList⟩, by simp⟩

/-- The members of a set held as flags, in ascending order (R137, R150). -/
def members {n : Nat} (v : Vector Bool n) : List (Fin n) := (List.finRange n).filter fun i => v[i]

/-- Whether a set held as flags has a member. -/
def nonEmpty {n : Nat} (v : Vector Bool n) : Bool := v.toList.any id

/-! ## Attractions and ports -/

/-- The record of an attraction. -/
def State.att (s : State) (a : AttrNo) : Attraction := s.attractions[a]

/-- The state with an attraction's record replaced. -/
def State.setAtt (s : State) (a : AttrNo) (r : Attraction) : State :=
  { s with attractions := s.attractions.set a r }

/-- The state with an attraction's record changed by a function. -/
def State.updAtt (s : State) (a : AttrNo) (f : Attraction → Attraction) : State := s.setAtt a (f (s.att a))

/-- The state with every attraction's record changed by a function. -/
def State.mapAtts (s : State) (f : Attraction → Attraction) : State :=
  { s with attractions := mapV f s.attractions }

/-- A port unit. -/
def State.port (s : State) (p : PortNo) : Port := s.ports[p]

/-- The state with a port changed by a function. -/
def State.updPort (s : State) (p : PortNo) (f : Port → Port) : State :=
  { s with ports := s.ports.set p (f (s.port p)) }

/-- The state with every port changed by a function. -/
def State.mapPorts (s : State) (f : Port → Port) : State := { s with ports := mapV f s.ports }

/-- Whether an attraction is in use: CLOSED, OPERATING or DOWN (chapter Attraction Table). -/
def Attraction.inUse (r : Attraction) : Bool := r.state != .unused

/-- The state with a count line replaced. -/
def State.setLine (s : State) (l : LineNo) (x : Line) : State := { s with lines := s.lines.set l x }

/-- The state with a board entry replaced. -/
def State.setEntry (s : State) (e : EntryNo) (x : BoardEntry) : State := { s with entries := s.entries.set e x }

/-- The state with a board entry's place in the dirty set replaced. -/
def State.setDirty (s : State) (e : EntryNo) (b : Bool) : State := { s with dirty := s.dirty.set e b }

/-! ## Numbers -/

/-- Division rounded up (chapter About this manual, Conventions: 'ceil'). -/
def ceilDiv (a b : Nat) : Nat := (a + b - 1) / b

/-- A saturating addition (R40). -/
def satAdd (top a b : Nat) : Nat := min top (a + b)

/-! ## The clock -/

/-- The minute of day of a reading, 0..1439 (section 1.1, 'now'). -/
def Time.minute (t : Time) : Nat := 60 * t.hours + t.minutes

/-- The second of day of a reading, by which readings are compared (R4). -/
def Time.second (t : Time) : Nat := 60 * t.minute + t.seconds

/-- The reading one second later (R1). -/
def Time.advance (t : Time) : Time :=
  if t.seconds < 59 then { t with seconds := t.seconds + 1 }
  else if t.minutes < 59 then ⟨t.hours, t.minutes + 1, 0⟩
  else if t.hours < 23 then ⟨t.hours + 1, 0, 0⟩
  else ⟨0, 0, 0⟩

/-- Now: the minute of day of the running clock (section 1.1). -/
def State.now (s : State) : Nat := s.clock.minute

/-- Whether the frame is OPEN or ENDED: the states in which a clock value is limited (R4) and a window length is fixed
(R22). -/
def State.started (s : State) : Bool := s.day = .opened || s.day = .ended

/-! ## Orders left open -/

/-- Insertion into a list kept in rising rank. -/
def insertBy {α : Type} (rank : α → Nat) (x : α) : List α → List α
  | [] => [x]
  | y :: ys => if rank x ≤ rank y then x :: y :: ys else y :: insertBy rank x ys

/-- A list in rising rank: the order a free rank fixes (log 5, log 6). -/
def orderBy {α : Type} (rank : α → Nat) (xs : List α) : List α := xs.foldr (insertBy rank) []

/-! ## The pass table and the free queue -/

/-- The slots in use whose record meets a test, in ascending slot number (R114). -/
def State.slotsWhere (s : State) (hit : Pass → Bool) : List SlotNo :=
  (s.slots.toList.zip (List.finRange Config.slots)).filterMap fun x =>
    match x.1.pass with
    | some r => if hit r then some x.2 else none
    | none => none

/-- A slot after every pass that meets a test is freed: it loses its record and keeps its generation (R114). -/
def Slot.freeIf (hit : Pass → Bool) (x : Slot) : Slot :=
  match x.pass with
  | some r => if hit r then { x with pass := none } else x
  | none => x

/-- Frees every slot in use whose record meets a test, appending the numbers in ascending order (R114, R128, R129). -/
def State.freeWhere (s : State) (hit : Pass → Bool) : State :=
  { s with slots := mapV (Slot.freeIf hit) s.slots, freeQueue := s.freeQueue ++ s.slotsWhere hit }

/-- A slot after every ISSUED pass that meets a test is taken to another state (R126, R127). -/
def Slot.retagIf (hit : Pass → Bool) (st : PassState) (x : Slot) : Slot :=
  match x.pass with
  | some r => if r.state = .issued && hit r then { x with pass := some { r with state := st } } else x
  | none => x

/-- Takes every ISSUED pass that meets a test to another state (R126, R127). -/
def State.retag (s : State) (hit : Pass → Bool) (st : PassState) : State :=
  { s with slots := mapV (Slot.retagIf hit st) s.slots }

/-- Frees one slot (R114). -/
def State.freeSlot (s : State) (i : SlotNo) : State :=
  { s with slots := s.slots.set i { s.slots[i] with pass := none }, freeQueue := s.freeQueue ++ [i] }

/-- The generation a slot takes at its next allocation (R113). -/
def nextGeneration (g : Nat) : Nat := (g + 1) % 16

/-- The pass id of a slot number and a generation (R111). -/
def passId (i : SlotNo) (generation : Nat) : Nat := generation * 4096 + i.val

/-- The slot number of a pass id (R111). -/
def slotOf (id : Nat) : SlotNo := ⟨id % 4096, Nat.mod_lt _ (by decide)⟩

/-- The pass a pass id names (R111). -/
def State.resolve (s : State) (id : Nat) : Option Pass :=
  let x := s.slots[slotOf id]
  if x.generation = id / 4096 then x.pass else none

/-- Writes a pass record into a slot in use. -/
def State.setPass (s : State) (i : SlotNo) (r : Pass) : State :=
  { s with slots := s.slots.set i { s.slots[i] with pass := some r } }

/-- Takes the slot at the head of the free queue, advances its generation and writes the record; nothing where the
queue is empty (R113). The answer carries the slot and the pass id. -/
def State.allocate (s : State) (r : Pass) : Option (State × Nat) :=
  match s.freeQueue with
  | [] => none
  | i :: rest =>
    let g := nextGeneration s.slots[i].generation
    some ({ s with slots := s.slots.set i ⟨g, some r⟩, freeQueue := rest }, passId i g)

end Sys2Proof.Machine
end

