-- ==== Sys2Proof/Machine/Flags.lean ====
section
/-! DEFINITION. The event flags of the ports: raising, following a condition, acknowledging, the leading event, ATTN. -/

namespace Sys2Proof.Machine

/-- The eight event kinds (R176). -/
inductive EventKind where
  | frame | attraction | stale | aged | window | posting | scan | clock
  deriving DecidableEq, Repr

/-- The number of a kind, which fixes its place in the default order (R176). -/
def EventKind.number : EventKind → Nat
  | .frame => 1
  | .attraction => 2
  | .stale => 3
  | .aged => 4
  | .window => 5
  | .posting => 6
  | .scan => 7
  | .clock => 8

/-- The bit of an event byte that stands for a kind: bit n - 1 for kind n (R183). -/
def EventKind.mask (k : EventKind) : Byte := 1#8 <<< (k.number - 1)

/-! ## Raising -/

/-- A port with a flag set (R176). -/
def Port.raise (k : EventKind) (p : Port) : Port := { p with flags := p.flags ||| k.mask }

/-- Whether a port's shadow names an attraction for which a test holds. -/
def Port.namesSome (hit : AttrNo → Bool) (p : Port) : Bool :=
  match p.shadow with
  | some sh => hit sh.attraction
  | none => false

/-- Raises an event at every port (R176). -/
def raiseAll (k : EventKind) (s : State) : State := s.mapPorts (Port.raise k)

/-- Raises an event at every port where a condition of the moment holds. -/
def raiseAllIf (b : Bool) (k : EventKind) (s : State) : State := if b then raiseAll k s else s

/-- Raises WINDOW at every port whose shadow names an attraction whose windows or list have changed (R102). -/
def raiseWindow (hit : AttrNo → Bool) (s : State) : State :=
  s.mapPorts fun p => if p.namesSome hit then p.raise .window else p

/-- Raises SCAN at the ports strapped OPS (R155). -/
def raiseScan (s : State) : State := s.mapPorts fun p => if p.role = .ops then p.raise .scan else p

/-! ## Level-type flags -/

/-- Whether a port's shadow is stale (R171). -/
def staleAt (s : State) (p : Port) : Bool :=
  match p.shadow with
  | some sh => sh.generation != (s.att sh.attraction).generation
  | none => false

/-- Whether any attraction is OPERATING with its aged flag set (R72, R177). -/
def anyAged (s : State) : Bool := s.attractions.toList.any fun r => r.state = .operating && r.aged

/-- The level-type kinds STALE, AGED and POSTING (R176). -/
def levelKinds : Byte := EventKind.stale.mask ||| EventKind.aged.mask ||| EventKind.posting.mask

/-- A kind's bit where its condition holds. -/
def EventKind.maskIf (k : EventKind) (b : Bool) : Byte := if b then k.mask else 0

/-- A port's flags with each level-type flag as its condition stands (R177). -/
def followedFlags (s : State) (p : Port) : Byte :=
  (p.flags &&& ~~~levelKinds) |||
    (EventKind.stale.maskIf (staleAt s p) ||| EventKind.aged.maskIf (anyAged s) |||
      EventKind.posting.maskIf (nonEmpty p.changed))

/-- Brings every level-type flag of every port to its condition (R177, R178, R182). -/
def followFlags (s : State) : State := s.mapPorts fun p => { p with flags := followedFlags s p }

/-! ## The leading event and ATTN -/

/-- The kinds in the default order (R176). -/
def defaultOrder : List EventKind := [.frame, .attraction, .stale, .aged, .window, .posting, .scan, .clock]

/-- Whether a kind's bit is set in an event byte (R183). -/
def EventKind.inMask (k : EventKind) (b : Byte) : Bool := (b &&& k.mask) != 0

/-- The number of the first kind of the default order in a byte, 0 where there is none. -/
def firstKind (b : Byte) : Nat :=
  match defaultOrder.find? (·.inMask b) with
  | some k => k.number
  | none => 0

/-- The leading event: the first set flag of a HIGH kind, else the first set flag, else 0 (R180). -/
def leadingEvent (p : Port) : Nat :=
  if firstKind (p.flags &&& p.level) ≠ 0 then firstKind (p.flags &&& p.level) else firstKind p.flags

/-- Whether a port asserts ATTN, driving it low: an enabled flag is set and the link is IDLE or READY (R181). -/
def Port.attn (p : Port) : Bool :=
  (p.flags &&& p.enable) != 0 &&
    match p.link with
    | .working _ => false
    | .idle | .ready _ => true

/-- Whether a port of the part asserts ATTN (R181). -/
def State.attn (s : State) (p : PortNo) : Bool := (s.port p).attn

end Sys2Proof.Machine
end

