-- ==== Sys2Proof/Machine/Posting.lean ====
section
/-! DEFINITION. The Posting Unit: what a posting shows, and what a changed posting and a changed condition bring (R133
to R137, R150, R177). -/

namespace Sys2Proof.Machine

/-- The posting of an attraction's record: marker alone unless OPERATING (R133). -/
def postingOf (r : Attraction) : Posting :=
  { marker := r.state
    shown := if r.state = .operating then some ⟨r.posted, r.targetOver, r.aged, r.offer⟩ else none }

/-- Which postings the attractions' records have moved away from the records held (R136). -/
def movedPostings (s : State) : Vector Bool Config.attractions :=
  zipV (fun held r => decide (held ≠ postingOf r)) s.postings s.attractions

/-- Whether an entry is valid and names an attraction of a set (R150). -/
def BoardEntry.names (moved : Vector Bool Config.attractions) (e : BoardEntry) : Bool :=
  match e.binding with
  | some b => moved[b.attraction]
  | none => false

/-- Brings every posting record to its attraction's figures; each record that changes adds its index to every port's
change set and marks dirty every valid entry that names it (R134, R136, R150). -/
def refreshPostings (s : State) : State :=
  { s with
    postings := mapV postingOf s.attractions
    ports := mapV (fun p => { p with changed := zipV (· || ·) p.changed (movedPostings s) }) s.ports
    dirty := zipV (fun d e => d || e.names (movedPostings s)) s.dirty s.entries }

/-- What ends every event that changes the part's state: the postings take their new values, and the level-type flags
their conditions, at the same event (R134, R136, R176, R177; log 20). -/
def settle (s : State) : State := followFlags (refreshPostings s)

end Sys2Proof.Machine
end

