-- ==== Sys2Proof/Machine/Book.lean ====
section
/-! DEFINITION. The Return Book: window times, building, window transitions, window choice and the next-return offer
(R86 to R109). -/

namespace Sys2Proof.Machine

/-! ## Window times and quotas -/

/-- The start of window w (R86). -/
def windowStart (o : Nat) (d : Descriptor) (w : Nat) : Nat := o + w * d.length

/-- The end of window w (R86). -/
def windowEnd (o : Nat) (d : Descriptor) (w : Nat) : Nat := windowStart o d w + d.length

/-- Whether the opening time of window w, its start less the early grace, is at or before m (R87, R95). -/
def openedBy (o : Nat) (d : Descriptor) (w m : Nat) : Bool := decide (windowStart o d w ≤ m + d.earlyGrace)

/-- The closing time of window w: the lesser of its end plus the late grace and Z (R87). -/
def closingTime (o z : Nat) (d : Descriptor) (w : Nat) : Nat := min (windowEnd o d w + d.lateGrace) z

/-- The opening time a reply carries as a minute of day (R122): start less early grace, a free minute where that falls
before minute 0 (log 10). -/
def openingReply (o : Nat) (d : Descriptor) (w : Nat) : Nat :=
  if d.earlyGrace ≤ windowStart o d w then windowStart o d w - d.earlyGrace
  else (Config.openingBeforeDay (windowStart o d w) d.earlyGrace).val

/-- The quota C = floor(H × p × L / 6000) (R87). -/
def quotaOf (d : Descriptor) : Nat := d.rate * d.share * d.length / 6000

/-- The window count n = min(64, floor((Z - O) / L)) (R86). -/
def windowCount (o z : Nat) (d : Descriptor) : Nat := min Config.maxWindows ((z - o) / d.length)

/-! ## Building -/

/-- A window as built: FUTURE with B = A = 0 and the quota of the descriptor (R89). -/
def newWindow (d : Descriptor) : Window := ⟨quotaOf d, 0, 0, .future, none⟩

/-- A list as built before the frame opens (R89, R93). -/
def builtList (o z : Nat) (d : Descriptor) : List Window := List.replicate (windowCount o z d) (newWindow d)

/-- Window w set by time in an open frame (R90). -/
def setByTime (now o z : Nat) (d : Descriptor) (down : Bool) (w : Nat) (x : Window) : Window :=
  if !openedBy o d w now then { x with state := .future, endedAt := none }
  else if down then { x with state := .slipped, endedAt := none }
  else if now < closingTime o z d w then { x with state := .opened, endedAt := none }
  else if now < closingTime o z d w + Config.retention then
    { x with state := .closed, endedAt := some (closingTime o z d w) }
  else { x with state := .spent, endedAt := some (closingTime o z d w) }

/-- A list built while the frame is OPEN (R90). -/
def builtByTime (now o z : Nat) (d : Descriptor) (down : Bool) : List Window :=
  (builtList o z d).mapIdx (setByTime now o z d down)

/-- The windows of an attraction, none where it has no list (R86). -/
def Attraction.list (r : Attraction) : List Window := r.windows.getD []

/-- Window w of an attraction. -/
def Attraction.window (r : Attraction) (w : Nat) : Option Window := r.list[w]?

/-- An attraction with window w changed by a function. -/
def Attraction.updWindow (r : Attraction) (w : Nat) (f : Window → Window) : Attraction :=
  { r with windows := r.windows.map fun ws => ws.modify w f }

/-! ## Transitions at a minute tick -/

/-- FUTURE to OPEN, or to SLIPPED if the attraction is DOWN, at its opening time (R95). -/
def openStep (m o : Nat) (d : Descriptor) (down : Bool) (w : Nat) (x : Window) : Window :=
  if x.state = .future && openedBy o d w m then { x with state := if down then .slipped else .opened } else x

/-- OPEN to CLOSED at its closing time, ended-at m (R96). -/
def closeStep (m o z : Nat) (d : Descriptor) (w : Nat) (x : Window) : Window :=
  if x.state = .opened && decide (closingTime o z d w ≤ m) then { x with state := .closed, endedAt := some m } else x

/-- Whether a CLOSED or VOID window's retention has run at m (R97). -/
def retired (m o : Nat) (x : Window) : Bool :=
  (x.state = .closed || x.state = .void) && decide (max (x.endedAt.getD 0) o + Config.retention ≤ m)

/-- CLOSED or VOID to SPENT when the retention has run (R97). -/
def retireStep (m o : Nat) (x : Window) : Window := if retired m o x then { x with state := .spent } else x

/-- Window w after the tick work: R95, then R96, then R97 (R98). -/
def tickWindow (m o z : Nat) (d : Descriptor) (down : Bool) (w : Nat) (x : Window) : Window :=
  retireStep m o (closeStep m o z d w (openStep m o d down w x))

/-- Whether some window changed its state (R102). -/
def statesDiffer (xs ys : List Window) : Bool := xs.map (·.state) != ys.map (·.state)

/-- Whether the window at a place went to CLOSED between two lists. -/
def closedBetween (xs ys : List Window) (w : Nat) : Bool :=
  xs[w]?.map (·.state) != some .closed && ys[w]?.map (·.state) == some .closed

/-- Whether a pass names window w of an attraction. -/
def Pass.names (a : AttrNo) (w : Nat) (r : Pass) : Bool := r.attraction = a && r.window = w

/-! ## Window choice and offer -/

/-- t0 = now + the greater of the posted minutes and the min lead (R105). -/
def earliestStart (now : Nat) (r : Attraction) : Nat := now + max r.posted r.desc.minLead

/-- Whether window w can take a party of n in mode EARLIEST (R105). -/
def canBook (o now : Nat) (r : Attraction) (n w : Nat) : Bool :=
  match r.window w with
  | some x =>
    (x.state = .future || x.state = .opened) && decide (earliestStart now r ≤ windowStart o r.desc w) &&
      decide (x.booked + n ≤ x.quota)
  | none => false

/-- The window an ISSUE in mode EARLIEST for a party of n chooses (R105). -/
def chooseEarliest (o now : Nat) (r : Attraction) (n : Nat) : Option Nat :=
  (List.range r.list.length).find? (canBook o now r n)

/-- The minute O, 0 where it is absent (no list exists then, R86; log 13). -/
def State.o (s : State) : Nat := s.openMinute.getD 0

/-- The minute Z, 0 where it is absent (no list exists then, R86; log 13). -/
def State.z (s : State) : Nat := s.closeMinute.getD 0

/-- The next-return offer of a record at the moment: present only for an OPERATING attraction with p > 0 in an OPEN
frame where a party of 1 would be given a window (R108). -/
def offerNow (s : State) (r : Attraction) : Option Nat :=
  if r.state = .operating && s.day = .opened && decide (0 < r.desc.share) then
    (chooseEarliest s.o s.now r 1).map (windowStart s.o r.desc)
  else none

/-- Recomputes the offer of one attraction (R109). -/
def recomputeOffer (a : AttrNo) (s : State) : State := s.updAtt a fun r => { r with offer := offerNow s r }

/-- Recomputes the offer of every attraction (R109: the frame's entry into OPEN or ENDED, a move of Z). -/
def recomputeOffers (s : State) : State := s.mapAtts fun r => { r with offer := offerNow s r }

/-! ## Work at the minute tick -/

/-- The Book's move of one attraction's windows at minute m (R94 to R98): the windows, the passes of those that close,
the slots of those that retire in ascending window index, and the WINDOW event. -/
def moveWindows (m o z : Nat) (a : AttrNo) (xs : List Window) (s : State) : State :=
  let r := s.att a
  let ys := xs.mapIdx (tickWindow m o z r.desc (r.state = .down))
  let moved := (s.updAtt a fun r => { r with windows := some ys }).retag
    (fun p => p.attraction = a && closedBetween xs ys p.window) .expired
  let freed := ((List.range xs.length).filter fun w => (xs[w]?.map (retired m o)).getD false).foldl
    (fun s w => s.freeWhere (Pass.names a w)) moved
  if statesDiffer xs ys then raiseWindow (· = a) freed else freed

/-- The Book's tick work for one attraction: it moves windows when O and Z are present, the frame is ARMED or OPEN and m
lies within O..Z - 1, and then recomputes the offer (R94). -/
def bookWork (m : Nat) (a : AttrNo) (s : State) : State :=
  match s.openMinute, s.closeMinute, (s.att a).windows with
  | some o, some z, some xs =>
    if (s.day = .armed || s.day = .opened) && decide (o ≤ m) && decide (m < z) then
      recomputeOffer a (moveWindows m o z a xs s)
    else s
  | _, _, _ => s

/-! ## Changes of attraction state and of frame -/

/-- An OPEN window of an attraction going DOWN (R99). -/
def slipWindow (x : Window) : Window := if x.state = .opened then { x with state := .slipped } else x

/-- Whether a window is FUTURE, OPEN or SLIPPED (section 5.3). -/
def Window.live (x : Window) : Bool := x.state = .future || x.state = .opened || x.state = .slipped

/-- A live window of an attraction being closed (R100). -/
def voidWindow (now : Nat) (x : Window) : Window :=
  if x.live then { x with state := .void, endedAt := some now } else x

/-- A window at the frame's entry into ENDED at minute m (R101). -/
def endWindow (m : Nat) (x : Window) : Window :=
  if x.live then { x with state := .spent, endedAt := some m } else { x with state := .spent }

/-- Applies a change to every window of one attraction, raising WINDOW where a state changed (R102). -/
def changeWindows (a : AttrNo) (f : Window → Window) (s : State) : State :=
  let xs := (s.att a).list
  let t := s.updAtt a fun r => { r with windows := r.windows.map (List.map f) }
  if statesDiffer xs (xs.map f) then raiseWindow (· = a) t else t

/-- The Book's and the Registry's part of a close (R100, R127). -/
def voidWindows (a : AttrNo) (s : State) : State :=
  changeWindows a (voidWindow s.now)
    (s.retag (fun p => p.attraction = a && (((s.att a).window p.window).map Window.live).getD false) .voided)

/-- The frame's entry into ENDED at minute m: every window SPENT, every slot freed, every offer absent (R13, R101,
R129). -/
def endFrame (m : Nat) (s : State) : State :=
  let t := { s with day := .ended }.mapAtts fun r => { r with windows := r.windows.map (List.map (endWindow m)) }
  recomputeOffers
    ((raiseWindow (fun a => (s.att a).list.any fun x => x.state != .spent) t).freeWhere fun _ => true)

/-- The list an attraction in use is given at a confirmation (R89, R90). -/
def buildFor (opens : Bool) (now o z : Nat) (r : Attraction) : Attraction :=
  if r.inUse then
    { r with windows := some (if opens then builtByTime now o z r.desc (r.state = .down) else builtList o z r.desc) }
  else r

/-- Empties the book, raising WINDOW for every list removed (R11, R15, R102). -/
def emptyBook (s : State) : State :=
  raiseWindow (fun a => (s.att a).windows.isSome) (s.mapAtts fun r => { r with windows := none, offer := none })

/-- The quota of a window after a CONFIGURE that keeps its list: FUTURE windows take the new one (R104). -/
def requota (d : Descriptor) (x : Window) : Window := if x.state = .future then { x with quota := quotaOf d } else x

/-- The list of an attraction after Z moves to z: lengthened by FUTURE windows or shortened to the new count (R91,
R92). -/
def resized (o z : Nat) (d : Descriptor) (later : Bool) (xs : List Window) : List Window :=
  if later then xs ++ List.replicate (windowCount o z d - xs.length) (newWindow d) else xs.take (windowCount o z d)

/-- Whether a window that a shortening to z would remove is in use: not FUTURE, or booked (R92). -/
def cutInUse (o z : Nat) (r : Attraction) : Bool :=
  (r.list.drop (windowCount o z r.desc)).any fun x => x.state != .future || decide (0 < x.booked)

end Sys2Proof.Machine
end

