-- ==== Sys2Proof/Machine/Wait.lean ====
section
/-! DEFINITION. The Wait Estimator: smoothing, aging, demand, target, the descent limiter (R62 to R85). -/

namespace Sys2Proof.Machine

/-! ## Smoothing -/

/-- d = 16 × R_min - T (R67). -/
def smoothingGap (r : Attraction) : Int := 16 * (r.riders : Int) - r.throughput

/-- d divided by 2^k, rounded to the nearest whole number, an exact half away from zero (R67). -/
def adjustment (d : Int) (k : Nat) : Int :=
  let a : Nat := (2 * d.natAbs + 2 ^ k) / (2 * 2 ^ k)
  if d < 0 then -(a : Int) else a

/-- T + adj, clamped to 0..65535 (R67). -/
def smoothed (r : Attraction) : Nat :=
  min 65535 ((r.throughput : Int) + adjustment (smoothingGap r) r.desc.shift).toNat

/-- The throughput an opening ride is seeded with, floor(16 × H / 60) (R32). -/
def seedThroughput (d : Descriptor) : Nat := 16 * d.rate / 60

/-! ## Demand and target -/

/-- The guests of window w that are due back: B - A of a live window whose start is not later than now + look-ahead
(R74). -/
def dueIn (o now : Nat) (d : Descriptor) (w : Nat) (x : Window) : Nat :=
  if x.live && decide (windowStart o d w ≤ now + d.lookAhead) then x.booked - x.arrived else 0

/-- U, the guests due back (R74). -/
def guestsDue (o now : Nat) (r : Attraction) : Nat := (r.list.mapIdx (dueIn o now r.desc)).sum

/-- D = Q + M + ceil(U × s / 100) (R75). -/
def demand (o now : Nat) (r : Attraction) : Nat := r.q + r.m + ceilDiv (guestsDue o now r * r.desc.showRate) 100

/-- Wraw = ceil(16 × D / V) with V the greater of T and 16 × F (R76). -/
def rawWait (o now : Nat) (r : Attraction) : Nat :=
  ceilDiv (16 * demand o now r) (max r.throughput (16 * r.desc.floorRate))

/-- A number rounded up to the next multiple of a step (R77). -/
def roundUp (step w : Nat) : Nat := ceilDiv w step * step

/-- W2: the raw wait with the walk offset, rounded up to the posting step (R77). -/
def roundedWait (o now : Nat) (r : Attraction) : Nat := roundUp r.desc.step (rawWait o now r + r.desc.walkOffset)

/-- The target wait and the over flag (R78). -/
def withTarget (o now : Nat) (r : Attraction) : Attraction :=
  { r with
    target := min (roundedWait o now r) r.desc.maxPosted
    targetOver := decide (r.desc.maxPosted < roundedWait o now r) }

/-- The immediate computation: the target is posted without the limiter (R80). -/
def immediate (o now : Nat) (r : Attraction) : Attraction :=
  { withTarget o now r with posted := (withTarget o now r).target }

/-- The posted minutes after the descent limiter (R79). -/
def limited (target posted step : Nat) : Nat := if posted ≤ target then target else max target (posted - step)

/-! ## Minute-tick work -/

/-- Stages 3 to 5 of the minute-tick work (R65). -/
def postWait (o now : Nat) (r : Attraction) : Attraction :=
  { withTarget o now r with posted := limited (withTarget o now r).target r.posted r.desc.step }

/-- Stage 1: R_min is folded into T and set to 0 (R67). -/
def smoothStage (r : Attraction) : Attraction := { r with throughput := smoothed r, riders := 0 }

/-- The Estimator's minute-tick work on one attraction's record (R64, R65, R70). -/
def estimate (o now : Nat) (r : Attraction) : Attraction :=
  match r.state with
  | .operating =>
    if r.aged then r
    else if r.ageCounter ≤ 1 then { smoothStage r with ageCounter := 0, aged := true }
    else postWait o now { smoothStage r with ageCounter := r.ageCounter - 1 }
  | .down => { r with riders := 0 }
  | .closed => r
  | .unused => r

/-- The Estimator's work for one attraction at minute m, and the hand-over of a changed posted value to the Book (R64,
R84). -/
def estimatorWork (m : Nat) (a : AttrNo) (s : State) : State :=
  let t := s.updAtt a (estimate s.o m)
  if (t.att a).posted = (s.att a).posted then t else recomputeOffer a t

end Sys2Proof.Machine
end

