-- ==== Sys2Proof/Machine/Counting.lean ====
section
/-! DEFINITION. The Counting Unit: entries, the dispatch split and the count lines (R40 to R61). -/

namespace Sys2Proof.Machine

/-! ## Entries and dispatches -/

/-- An entry of n guests: Q is raised while OPERATING or DOWN, and the entry is ignored while CLOSED (R42, R58). -/
def applyEntry (n : Nat) (r : Attraction) : Attraction :=
  match r.state with
  | .operating => { r with q := satAdd 65535 r.q n }
  | .down => { r with q := satAdd 65535 r.q n }
  | .closed => r
  | .unused => r

/-- The merge part m of a dispatch of n riders: the lesser of M and floor(n × g / 100) (R44). -/
def mergePart (n : Nat) (r : Attraction) : Nat := min r.m (n * r.desc.mergeShare / 100)

/-- The standby part of a dispatch of n riders (R44). -/
def standbyPart (n : Nat) (r : Attraction) : Nat := n - mergePart n r

/-- M after a dispatch of n riders: the merge part leaves, and then any shortfall of Q, down to 0 (R44). -/
def mergeAfter (n : Nat) (r : Attraction) : Nat := r.m - mergePart n r - (standbyPart n r - r.q)

/-- A dispatch of n riders on an OPERATING attraction: the split, R_min, and the age counter reloaded with the aged
flag cleared (R44, R45). -/
def dispatch (n : Nat) (r : Attraction) : Attraction :=
  { r with
    q := r.q - standbyPart n r
    m := mergeAfter n r
    riders := satAdd 4095 r.riders n
    ageCounter := r.desc.ageLimit
    aged := false }

/-- A dispatch applied while OPERATING and ignored otherwise (R43, R59). -/
def applyDispatch (n : Nat) (r : Attraction) : Attraction := if r.state = .operating then dispatch n r else r

/-- The riders of a line-counted dispatch, ceil(seats × fill / 100) (R59). -/
def lineRiders (d : Descriptor) : Nat := ceilDiv (d.seats * d.fill) 100

/-! ## Count lines -/

/-- The level a line is at rest at: low for RISING, high for FALLING, none for BOTH (R52). -/
def Edge.inactive : Edge → Option Bool
  | .rising => some false
  | .falling => some true
  | .both => none

/-- Whether a qualified transition to a level is a counting edge (R52, R57). -/
def Edge.counts (e : Edge) (level : Bool) : Bool :=
  match e with
  | .rising => level
  | .falling => !level
  | .both => true

/-- The samples counted toward arming after one more sample (R56): the run at the inactive level, or for BOTH the run
at the level seen. -/
def armingRun (e : Edge) (count : Nat) (held level : Bool) : Nat :=
  match e.inactive with
  | some rest => if level = rest then count + 1 else 0
  | none => if count ≠ 0 ∧ level = held then count + 1 else 1

/-- A count line after a sample at a level, and whether the sample brought a count (R53, R56, R57). -/
def sampleLine (level : Bool) : Line → Line × Bool
  | .unbound => (.unbound, false)
  | .unarmed b count held =>
    let n := armingRun b.edge count held level
    if n ≠ 0 ∧ b.qualify ≤ n then (.armed b level none, false)
    else (.unarmed b n (if n = 0 then false else level), false)
  | .armed b settled candidate =>
    if level = settled then (.armed b settled none, false)
    else if b.qualify ≤ candidate.getD 0 + 1 then (.armed b level none, b.edge.counts level)
    else (.armed b settled (some (candidate.getD 0 + 1)), false)

/-- The binding of a line that has one (R52). -/
def Line.binding? : Line → Option Binding
  | .unbound => none
  | .unarmed b _ _ => some b
  | .armed b _ _ => some b

/-- One count of a line's kind for its attraction (R58, R59). -/
def applyCount (b : Binding) (s : State) : State :=
  match b.kind with
  | .entry => s.updAtt b.attraction (applyEntry 1)
  | .dispatch => s.updAtt b.attraction fun r => applyDispatch (lineRiders r.desc) r

/-- The sample of one line: its own state, and the count it brings (R53, R57). -/
def lineWork (levels : Levels) (l : LineNo) (s : State) : State :=
  let x := sampleLine levels[l] s.lines[l]
  let t := s.setLine l x.1
  match x.1.binding? with
  | some b => if x.2 then applyCount b t else t
  | none => t

/-- One millisecond sample of the sixteen lines, in a free order, each line's work one event (R50, R53; log 6). -/
def sampleLines (levels : Levels) (s : State) : State :=
  (orderBy (fun l : LineNo => Config.lineRank s.choice l) (List.finRange Config.lines)).foldl
    (fun s l => settle (lineWork levels l s)) { s with choice := s.choice + 1 }

/-- A line after a line reset (R61). -/
def disarm : Line → Line
  | .unbound => .unbound
  | .unarmed b _ _ => .unarmed b 0 false
  | .armed b _ _ => .unarmed b 0 false

/-- A line after the RELEASE of an attraction (R60). -/
def unbindFrom (a : AttrNo) (x : Line) : Line :=
  match x.binding? with
  | some b => if b.attraction = a then .unbound else x
  | none => x

end Sys2Proof.Machine
end

