-- ==== Sys2Proof/Machine/Operands.lean ====
section
/-! DEFINITION. The bytes of requests and replies: frames, kinds, result codes, arguments and records (R158, R165, R166,
R168, R183 to R188). -/

namespace Sys2Proof.Machine

/-! ## Numbers -/

/-- A quantity of one byte (R183). -/
def byte (n : Nat) : Byte := BitVec.ofNat 8 n

/-- A quantity of two bytes, most significant first (R183). -/
def be16 (n : Nat) : List Byte := [byte (n / 256), byte n]

/-- The whole number two argument bytes form (R183). -/
def u16 (hi lo : Byte) : Nat := 256 * hi.toNat + lo.toNat

/-- A flag as a bit of a byte or a byte of its own. -/
def bit (b : Bool) (n : Nat) : Nat := if b then 2 ^ n else 0

/-! ## Bits -/

/-- The whole bytes among the bits clocked, most significant bit first; bits after the last whole byte are discarded
(R158). -/
def bytesOfBits : List Bool → List Byte
  | b7 :: b6 :: b5 :: b4 :: b3 :: b2 :: b1 :: b0 :: rest =>
    byte (bit b7 7 + bit b6 6 + bit b5 5 + bit b4 4 + bit b3 3 + bit b2 2 + bit b1 1 + bit b0 0) :: bytesOfBits rest
  | _ => []

/-- A byte's bits, most significant first (R158). -/
def bitsOfByte (b : Byte) : List Bool := (List.range 8).map fun i => b.getLsbD (7 - i)

/-- The bits of bytes in the order they move on a port (R158). -/
def bitsOfBytes (bs : List Byte) : List Bool := bs.flatMap bitsOfByte

/-! ## Frames -/

/-- The check byte that makes the sum of all the bytes 0 modulo 256 (R165, R166). -/
def checkByte (bs : List Byte) : Byte := -bs.sum

/-- A whole request frame with a correct check byte (R165). -/
def requestFrame (kind : Byte) (args : List Byte) : List Byte :=
  kind :: byte args.length :: args ++ [checkByte (kind :: byte args.length :: args)]

/-- The most bytes a request frame has (R165). -/
def longestRequest : Nat := 35

/-- The arguments of a request frame, none where the frame fails its check: a length above 32, too few bytes, or a sum
other than 0. Bytes after the frame are ignored (R165). -/
def openFrame : List Byte → Option (List Byte)
  | kind :: n :: rest =>
    if 32 < n.toNat then none
    else if rest.length < n.toNat + 1 then none
    else if (kind :: n :: rest.take (n.toNat + 1)).sum = 0 then some (rest.take n.toNat)
    else none
  | _ => none

/-- The kind echo: the kind byte, and 0x00 for 0xFE and 0xFF (R166). -/
def kindEcho (request : List Byte) : Byte :=
  let kind := request.headD 0
  if kind = 0xFE#8 ∨ kind = 0xFF#8 then 0 else kind

/-- A reply frame (R166). -/
def replyFrame (echo code : Byte) (data : List Byte) : List Byte :=
  echo :: code :: byte data.length :: data ++ [checkByte (echo :: code :: byte data.length :: data)]

/-- The marker shifted out while WORKING (R160). -/
def notReady : Byte := 0xFE

/-- The marker shifted out while IDLE (R160). -/
def emptyMarker : Byte := 0xFF

/-! ## Result codes -/

/-- The results of a request (section 11.2). -/
inductive ResultCode where
  | done | frameError | unknownRequest | notPermitted | badArgument | badCombination | noAttraction | noSelection | stale
  | clockUnset | frameState | clockBack | stepTooLarge | rideState | inUse | noWindow | windowFull | tooSoon | tableFull
  | unknownPass | alreadyUsed | expired | voided | tooEarly
  deriving DecidableEq, Repr

/-- The value of a result code (section 11.2). -/
def ResultCode.value : ResultCode → Byte
  | .done => 0x00
  | .frameError => 0x01
  | .unknownRequest => 0x02
  | .notPermitted => 0x03
  | .badArgument => 0x04
  | .badCombination => 0x05
  | .noAttraction => 0x06
  | .noSelection => 0x07
  | .stale => 0x08
  | .clockUnset => 0x09
  | .frameState => 0x0A
  | .clockBack => 0x0B
  | .stepTooLarge => 0x0C
  | .rideState => 0x0D
  | .inUse => 0x0E
  | .noWindow => 0x10
  | .windowFull => 0x11
  | .tooSoon => 0x12
  | .tableFull => 0x13
  | .unknownPass => 0x18
  | .alreadyUsed => 0x19
  | .expired => 0x1A
  | .voided => 0x1B
  | .tooEarly => 0x1C

/-! ## Kinds -/

/-- The request rows of spec/opcode_table.json. -/
inductive Row where
  | status | ackEvents | setEvents | readClock | select | readPosting | readChanged | readWindows | readPass
  | readAttraction | setClock | frameOpen | frameClose | clearDay | configure | release | setStateOperating
  | setStateDown | setStateClosed | bind | unbind | inquire | boardSet | boardSetClear | boardOverride | entryReport
  | dispatchReport | queueSet | issueEarliest | issueAt | redeem | cancel | unknownRequest
  deriving DecidableEq, Repr

/-- Argument byte i of a request, absent where the length byte does not count it or it was not clocked in (R165). -/
def argAt (request : List Byte) (i : Nat) : Option Nat :=
  if i < (request.getD 1 0).toNat then request[i + 2]?.map BitVec.toNat else none

/-- The row of the table under which a taken request is carried out: its kind byte (section 11.2), and for the kinds
with several rows the argument byte that names the row; any other value of that byte, or none, falls under the first
row of its kind, whose checks then refuse it (log 7). -/
def rowOf (request : List Byte) : Row :=
  match (request.headD 0).toNat with
  | 0x01 => .status
  | 0x02 => .ackEvents
  | 0x03 => .setEvents
  | 0x04 => .readClock
  | 0x05 => .select
  | 0x06 => .readPosting
  | 0x07 => .readChanged
  | 0x08 => .readWindows
  | 0x09 => .readPass
  | 0x0A => .readAttraction
  | 0x10 => .setClock
  | 0x11 => .frameOpen
  | 0x12 => .frameClose
  | 0x13 => .clearDay
  | 0x14 => .configure
  | 0x15 => .release
  | 0x16 =>
    if argAt request 1 = some 1 then .setStateClosed
    else if argAt request 1 = some 3 then .setStateDown
    else .setStateOperating
  | 0x17 =>
    if argAt request 1 = some 1 then .unbind
    else if argAt request 1 = some 2 then .inquire
    else .bind
  | 0x18 => if argAt request 1 = some 0 then .boardSetClear else .boardSet
  | 0x19 => .boardOverride
  | 0x20 => .entryReport
  | 0x21 => .dispatchReport
  | 0x22 => .queueSet
  | 0x30 => if argAt request 0 = some 1 then .issueAt else .issueEarliest
  | 0x31 => .redeem
  | 0x32 => .cancel
  | _ => .unknownRequest

/-- The kind byte of a row (section 11.2). -/
def Row.kind : Row → Byte
  | .status => 0x01
  | .ackEvents => 0x02
  | .setEvents => 0x03
  | .readClock => 0x04
  | .select => 0x05
  | .readPosting => 0x06
  | .readChanged => 0x07
  | .readWindows => 0x08
  | .readPass => 0x09
  | .readAttraction => 0x0A
  | .setClock => 0x10
  | .frameOpen => 0x11
  | .frameClose => 0x12
  | .clearDay => 0x13
  | .configure => 0x14
  | .release => 0x15
  | .setStateOperating => 0x16
  | .setStateDown => 0x16
  | .setStateClosed => 0x16
  | .bind => 0x17
  | .unbind => 0x17
  | .inquire => 0x17
  | .boardSet => 0x18
  | .boardSetClear => 0x18
  | .boardOverride => 0x19
  | .entryReport => 0x20
  | .dispatchReport => 0x21
  | .queueSet => 0x22
  | .issueEarliest => 0x30
  | .issueAt => 0x30
  | .redeem => 0x31
  | .cancel => 0x32
  | .unknownRequest => 0xFF

/-- Which roles may send a kind (R168); a kind that is not known is refused before its role is looked at. -/
def permits (row : Row) (role : Role) : Bool :=
  match row with
  | .status | .ackEvents | .setEvents | .readClock | .select | .readPosting | .readChanged | .readWindows | .readPass
  | .readAttraction | .unknownRequest => true
  | .setClock | .frameOpen | .frameClose | .clearDay | .configure | .release | .bind | .unbind | .inquire | .boardSet
  | .boardSetClear | .boardOverride | .setStateClosed => role = .ops
  | .setStateOperating | .setStateDown | .queueSet => role = .ops || role = .ride
  | .entryReport | .dispatchReport => role = .ride
  | .issueEarliest | .issueAt | .redeem | .cancel => role = .issue

/-! ## Codes of enumerated fields (R184) -/

/-- Attraction state and marker. -/
def RideState.code : RideState → Nat
  | .unused => 0
  | .closed => 1
  | .operating => 2
  | .down => 3

/-- Frame state. -/
def DayState.code : DayState → Nat
  | .unset => 0
  | .half => 1
  | .armed => 2
  | .opened => 3
  | .ended => 4

/-- Window state. -/
def WindowState.code : WindowState → Nat
  | .future => 0
  | .opened => 1
  | .slipped => 2
  | .closed => 3
  | .void => 4
  | .spent => 5

/-- Pass state. -/
def PassState.code : PassState → Nat
  | .issued => 0
  | .redeemed => 1
  | .expired => 2
  | .voided => 3

/-- Role. -/
def Role.code : Role → Nat
  | .view => 0
  | .issue => 1
  | .ride => 2
  | .ops => 3

/-- Line kind. -/
def LineKind.code : LineKind → Nat
  | .entry => 0
  | .dispatch => 1

/-- Edge. -/
def Edge.code : Edge → Nat
  | .rising => 0
  | .falling => 1
  | .both => 2

/-- Board content. -/
def Content.code : Content → Nat
  | .wait => 0
  | .ret => 1

/-- The line kind of a code. -/
def kindOf (b : Byte) : Option LineKind :=
  match b.toNat with
  | 0 => some .entry
  | 1 => some .dispatch
  | _ => none

/-- The edge of a code. -/
def edgeOf (b : Byte) : Option Edge :=
  match b.toNat with
  | 0 => some .rising
  | 1 => some .falling
  | 2 => some .both
  | _ => none

/-- The board content of a code. -/
def contentOf (b : Byte) : Option Content :=
  match b.toNat with
  | 0 => some .wait
  | 1 => some .ret
  | _ => none

/-! ## Indices -/

/-- An attraction index in 0..47. -/
def attrOf (b : Byte) : Option AttrNo := if h : b.toNat < Config.attractions then some ⟨b.toNat, h⟩ else none

/-- A line number in 0..15. -/
def lineOf (b : Byte) : Option LineNo := if h : b.toNat < Config.lines then some ⟨b.toNat, h⟩ else none

/-- An entry number in 0..63. -/
def entryOf (b : Byte) : Option EntryNo := if h : b.toNat < Config.entries then some ⟨b.toNat, h⟩ else none

/-! ## The descriptor -/

/-- The 18 bytes of a descriptor (R186). -/
def descriptorBytes (d : Descriptor) : List Byte :=
  be16 d.rate ++ [byte d.share, byte d.mergeShare, byte d.length, byte d.seats, byte d.fill, byte d.shift,
    byte d.floorRate, byte d.lookAhead, byte d.showRate, byte d.walkOffset, byte d.step, byte d.maxPosted,
    byte d.ageLimit, byte d.earlyGrace, byte d.lateGrace, byte d.minLead]

/-- The descriptor that 18 bytes carry (R186); none for any other number of bytes. -/
def readDescriptor : List Byte → Option Descriptor
  | [hi, lo, p, g, l, seats, fill, k, f, ahead, s, walk, step, most, age, early, late, lead] =>
    some ⟨u16 hi lo, p.toNat, g.toNat, l.toNat, seats.toNat, fill.toNat, k.toNat, f.toNat, ahead.toNat, s.toNat,
      walk.toNat, step.toNat, most.toNat, age.toNat, early.toNat, late.toNat, lead.toNat⟩
  | _ => none

/-- Whether every field of a descriptor lies in its range (R20). -/
def Descriptor.inRange (d : Descriptor) : Bool :=
  (60 ≤ d.rate && d.rate ≤ 6000) && d.share ≤ 90 && d.mergeShare ≤ 100 && [5, 10, 15, 20, 30, 60].contains d.length &&
    (1 ≤ d.seats && d.seats ≤ 64) && (50 ≤ d.fill && d.fill ≤ 100) && (1 ≤ d.shift && d.shift ≤ 6) &&
    (1 ≤ d.floorRate && d.floorRate ≤ 100) && d.lookAhead ≤ 60 && (50 ≤ d.showRate && d.showRate ≤ 100) &&
    d.walkOffset ≤ 30 && [1, 5, 10].contains d.step && (30 ≤ d.maxPosted && d.maxPosted ≤ 240) &&
    (2 ≤ d.ageLimit && d.ageLimit ≤ 30) && d.earlyGrace ≤ 30 && d.lateGrace ≤ 30 && d.minLead ≤ 120

/-- Whether the combinations of a descriptor are allowed (R21). -/
def Descriptor.combines (d : Descriptor) : Bool :=
  d.maxPosted % d.step = 0 && !(0 < d.share && d.mergeShare = 0)

/-! ## Records -/

/-- A posting record (R187). -/
def postingBytes (a : AttrNo) (x : Posting) : List Byte :=
  match x.shown with
  | some f =>
    [byte a.val, byte x.marker.code, byte (bit f.overFlag 0 + bit f.aged 1 + bit f.nextReturn.isSome 2), byte f.posted] ++
      be16 (f.nextReturn.getD 0)
  | none => [byte a.val, byte x.marker.code, 0, 0, 0, 0]

/-- A window record with its start and end (R187). -/
def windowBytes (w start stop : Nat) (x : Window) : List Byte :=
  [byte w] ++ be16 start ++ be16 stop ++ [byte x.state.code] ++ be16 x.quota ++ be16 x.booked ++ be16 x.arrived ++
    be16 (x.endedAt.getD 0)

/-- A pass record with its window's start, end and state (R187). -/
def passBytes (id : Nat) (r : Pass) (start stop : Nat) (state : WindowState) : List Byte :=
  be16 id ++ [byte r.attraction.val, byte r.window, byte r.party, byte r.state.code] ++ be16 r.issuedAt ++
    [byte r.port.val] ++ be16 (r.redeemedAt.getD 0) ++ be16 start ++ be16 stop ++ [byte state.code]

/-- The three bytes of a clock reading (R183). -/
def timeBytes (t : Time) : List Byte := [byte t.hours, byte t.minutes, byte t.seconds]

/-- Q and M as a reply carries them (R185). -/
def countBytes (r : Attraction) : List Byte := be16 r.q ++ be16 r.m

/-! ## The sign frame -/

/-- The code of a sign frame's kind (section 11.4). -/
def SignKind.code : SignKind → Nat
  | .wait => 1
  | .ret => 2
  | .none => 3
  | .down => 4
  | .closed => 5
  | .blank => 6
  | .override => 7

/-- Bytes 1 to 6 of a sign frame (section 11.4). -/
def SignFrame.body (f : SignFrame) : List Byte :=
  [byte f.address, byte f.kind.code, byte f.high, byte f.low, byte (bit f.overFlag 0 + bit f.aged 1), byte f.override]

/-- The check of a sign frame: the sum of bytes 1 to 6 modulo 65536 (R188). -/
def SignFrame.check (f : SignFrame) : Nat := (f.body.map BitVec.toNat).sum % 65536

/-- The eight bytes of a sign frame (R188). -/
def SignFrame.bytes (f : SignFrame) : List Byte := f.body ++ be16 f.check

/-- A character on BOARD_TX: a start bit, eight data bits with the least significant first, a stop bit (R151). -/
def boardCharacter (b : Byte) : List Bool := false :: (List.range 8).map b.getLsbD ++ [true]

/-- A sign frame and its gap on BOARD_TX, one level a bit time, true being high (R151). -/
def SignFrame.waveform (f : SignFrame) : List Bool := f.bytes.flatMap boardCharacter ++ List.replicate 20 true

/-- The level of BOARD_TX, true being high, n bit times after the board line came to a state: the frame in flight and its
gap, and the high level while the line is IDLE, RESYNCHRONISING or past the gap (R151, R156; log 11, log 15). -/
def Board.tx (b : Board) (n : Nat) : Bool :=
  match b with
  | .idle => true
  | .sending f _ => f.waveform.getD n true
  | .resynchronising => true

/-- The level of the part's BOARD_TX, n bit times after its board line came to its state (R151, R156). -/
def State.boardTx (s : State) (n : Nat) : Bool := s.board.tx n

end Sys2Proof.Machine
end

