-- ==== Sys2Proof/Machine/Requests.lean ====
section
/-! DEFINITION. Carrying out a taken request: the order of the checks, the reply, and the link (R164 to R169). -/

namespace Sys2Proof.Machine

/-- A refusal of a request: its code, and its data, which only TOO_EARLY has (R166). -/
structure Reject where
  code : ResultCode
  data : List Byte
  deriving DecidableEq, Repr

/-- What steps 4 to 10 of the check order and the effect of a request answer: a refusal, or the new state and the DONE
data (R167). -/
abbrev Answer := Except Reject (State × List Byte)

/-- Refuses a request with a code and no data (R166). -/
def reject (c : ResultCode) : Answer := .error ⟨c, []⟩

/-- Answers DONE with a state and the reply data (R166). -/
def accept (s : State) (data : List Byte) : Answer := .ok (s, data)

/-- What carries out a request of one row: the sending port, the argument bytes, the state. -/
abbrev Body := PortNo → List Byte → State → Answer

/-- A request frame's outcome by the check order: step 1 the frame, step 2 the kind, step 3 the role, then the row's own
steps (R167). -/
def judge (row : Row) (body : Body) (p : PortNo) (request : List Byte) (s : State) : Answer :=
  match openFrame request with
  | none => reject .frameError
  | some args =>
    if row = .unknownRequest then reject .unknownRequest
    else if permits row (s.port p).role then body p args s
    else reject .notPermitted

/-- The port becomes READY with a reply (R164). -/
def State.withReply (s : State) (p : PortNo) (reply : List Byte) : State :=
  s.updPort p fun q => { q with link := .ready reply }

/-- The state after an answer: a refused request changes nothing but its port's link, and an accepted one has its whole
effect, with the postings and flags that follow from it, in one event (R164, R167). -/
def answered (p : PortNo) (request : List Byte) (s : State) : Answer → State
  | .error r => s.withReply p (replyFrame (kindEcho request) r.code.value r.data)
  | .ok (t, data) => (settle t).withReply p (replyFrame (kindEcho request) ResultCode.done.value data)

/-- Carries out the request in hand at a port under a row of the table (R164). Where the port has no request in hand, or
one of another row, there is no such event and nothing changes (log 3). -/
def carryOut (row : Row) (body : Body) (p : PortNo) (s : State) : State :=
  match (s.port p).link with
  | .working request => if rowOf request = row then answered p request s (judge row body p request s) else s
  | .idle => s
  | .ready _ => s

end Sys2Proof.Machine
end

