-- ==== Sys2Proof/Machine/Clock.lean ====
section
/-! DEFINITION. The Clock and Frame Unit: ticks, SET_CLOCK, READ_CLOCK, the frame pair, CLEAR_DAY (R1 to R18), and the
steps that stand inside a second tick (R2, R70, R97). -/

namespace Sys2Proof.Machine

/-! ## The minute tick -/

/-- The works that one minute tick makes due: the frame's own move, and for each attraction the Estimator's work and the
Book's (R2). -/
inductive TickWork where
  | frame
  | estimator (a : AttrNo)
  | book (a : AttrNo)
  deriving DecidableEq, Repr

/-- The number under which a work's rank is asked for (log 5). -/
def TickWork.number : TickWork → Nat
  | .frame => 0
  | .estimator a => 1 + a.val
  | .book a => 1 + Config.attractions + a.val

/-- Every work of one minute tick (R2). -/
def tickWorks : List TickWork :=
  .frame :: (List.finRange Config.attractions).map .estimator ++ (List.finRange Config.attractions).map .book

/-- The frame's entry into OPEN (R10): the state and the offers of every OPERATING attraction (R109). -/
def openFrameDay (s : State) : State := recomputeOffers { s with day := .opened }

/-- The frame's move at minute m (R10, R13, R16). -/
def frameWork (m : Nat) (s : State) : State :=
  match s.day with
  | .armed =>
    if m < s.o then s
    else if s.z ≤ m then raiseAll .frame (endFrame m s)
    else raiseAll .frame (openFrameDay s)
  | .opened => if s.z ≤ m then raiseAll .frame (endFrame m s) else s
  | .unset => s
  | .half => s
  | .ended => s

/-- One work of the minute tick for minute m (R2). -/
def tickWork (m : Nat) : TickWork → State → State
  | .frame, s => frameWork m s
  | .estimator a, s => estimatorWork m a s
  | .book a, s => bookWork m a s

/-- The minute tick for minute m: every work once, in a free order, each one event (R2; log 5). -/
def minuteWork (m : Nat) (s : State) : State :=
  (orderBy (fun w : TickWork => Config.tickRank s.choice w.number) tickWorks).foldl
    (fun s w => settle (tickWork m w s)) { s with choice := s.choice + 1 }

/-! ## The second tick -/

/-- Whether a SET_CLOCK value keeps the limits of OPEN and ENDED against a running reading: not earlier, and not more
than 3600 seconds later (R4). -/
def stepAllowed (running value : Time) : Bool :=
  decide (running.second ≤ value.second) && decide (value.second ≤ running.second + Config.largestStep)

/-- The pending clock value that the next second tick loads, absent where it only advances (R5). -/
def State.loads (s : State) : Option Time :=
  match s.pendingClock with
  | some v => if s.started && !stepAllowed s.clock v then none else some v
  | none => none

/-- The reading after the next second tick (R1, R5). -/
def State.nextReading (s : State) : Time := s.loads.getD s.clock.advance

/-- Whether the next second tick changes the minute, and so is a minute tick (R2, R6). -/
def State.minuteDue (s : State) : Bool := s.nextReading.minute != s.clock.minute

/-- The clock's own part of a second tick: the new reading, the pending value gone, and at a load the clock-set flag and
the CLOCK event (R1, R5). -/
def clockTick (s : State) : State :=
  let t := { s with clock := s.nextReading, pendingClock := none }
  if s.loads.isSome then raiseAll .clock { t with clockSet := true } else t

/-- A second tick, with the minute tick where the minute changes (R1, R2, R5, R6). -/
def secondTick (s : State) : State :=
  settle (if s.minuteDue then minuteWork s.nextReading.minute (clockTick s) else clockTick s)

/-- SECOND_TICK. -/
def execSecondTick (s : State) : Host.Outcome State Fault Refusal := .next (secondTick s)

/-- MINUTE_TICK: the second tick that changes the minute; at any other moment there is no such step (R2; log 3, log
4). -/
def execMinuteTick (s : State) : Host.Outcome State Fault Refusal := .next (if s.minuteDue then secondTick s else s)

/-- Whether the next second tick ages an attraction: a minute tick that finds it OPERATING, not AGED, with an age counter
that runs out (R70). -/
def agesNext (a : AttrNo) (s : State) : Bool :=
  s.minuteDue && (s.att a).state = .operating && !(s.att a).aged && decide ((s.att a).ageCounter ≤ 1)

/-- AGING_TICK: the minute tick at which the attraction becomes AGED (R70; log 3, log 4). -/
def execAgingTick (a : AttrNo) (s : State) : Host.Outcome State Fault Refusal :=
  .next (if agesNext a s then secondTick s else s)

/-- Whether the next second tick retires a window: a minute tick within O..Z - 1 of an ARMED or OPEN frame, at which the
retention of a CLOSED or VOID window has run (R94, R97). -/
def retiresNext (a : AttrNo) (w : Nat) (s : State) : Bool :=
  s.minuteDue && (s.day = .armed || s.day = .opened) && s.openMinute.isSome && decide (s.o ≤ s.nextReading.minute) &&
    decide (s.nextReading.minute < s.z) && (((s.att a).window w).map (retired s.nextReading.minute s.o)).getD false

/-- RETIREMENT: the minute tick at which the window becomes SPENT and its slots are freed (R97; log 3, log 4). -/
def execRetirement (a : AttrNo) (w : Nat) (s : State) : Host.Outcome State Fault Refusal :=
  .next (if retiresNext a w s then secondTick s else s)

/-! ## SET_CLOCK and READ_CLOCK -/

/-- SET_CLOCK (R4). -/
def setClockBody : Body := fun _ args s =>
  match args with
  | [h, m, sec] =>
    let v : Time := ⟨h.toNat, m.toNat, sec.toNat⟩
    if 23 < v.hours ∨ 59 < v.minutes ∨ 59 < v.seconds then reject .badArgument
    else if s.started ∧ v.second < s.clock.second then reject .clockBack
    else if s.started ∧ s.clock.second + Config.largestStep < v.second then reject .stepTooLarge
    else accept { s with pendingClock := some v } []
  | _ => reject .badArgument

/-- The clock byte of READ_CLOCK (R185). -/
def clockByte (s : State) : Nat :=
  bit s.clockSet 0 + bit s.pendingClock.isSome 1 + bit s.openMinute.isSome 2 + bit s.closeMinute.isSome 3

/-- READ_CLOCK (R7, R185). -/
def readClockBody : Body := fun _ args s =>
  match args with
  | [] =>
    accept s (timeBytes s.clock ++ [byte (clockByte s)] ++ timeBytes (s.pendingClock.getD ⟨0, 0, 0⟩) ++
      [byte s.day.code] ++ be16 s.o ++ be16 s.z)
  | _ => reject .badArgument

/-- SET_CLOCK at a port. -/
def execSetClock (p : PortNo) (s : State) : Host.Outcome State Fault Refusal :=
  .next (carryOut .setClock setClockBody p s)

/-- READ_CLOCK at a port. -/
def execReadClock (p : PortNo) (s : State) : Host.Outcome State Fault Refusal :=
  .next (carryOut .readClock readClockBody p s)

/-! ## The frame pair -/

/-- The conditions a confirmed pair meets: O < Z, Z - O at least 30, Z later than now (R9). -/
def pairAllowed (o z now : Nat) : Bool := decide (o < z) && decide (o + Config.leastFrame ≤ z) && decide (now < z)

/-- The confirmation of the pair: the lists built, the frame ARMED, or OPEN at once where now has reached O (R9, R16,
R89, R90, R102, R109). -/
def confirm (o z : Nat) (s : State) : State :=
  let opens := decide (o ≤ s.now)
  let t := { s with openMinute := some o, closeMinute := some z, day := if opens then .opened else .armed }
  raiseAll .frame
    (raiseWindow (fun a => (s.att a).inUse) (recomputeOffers (t.mapAtts (buildFor opens s.now o z))))

/-- What a write of O or Z meets: the missing value of a HALF frame (R9). -/
def otherMinute (own other : Option Nat) (s : State) : Option Nat :=
  if s.day = .half ∧ own = none then other else none

/-- FRAME_OPEN's effect outside a confirmation (R9, R11, R16). -/
def writeOpen (o : Nat) (s : State) : State :=
  match s.day with
  | .armed => raiseAll .frame (emptyBook { s with openMinute := some o, closeMinute := none, day := .half })
  | .unset => raiseAll .frame { s with openMinute := some o, day := .half }
  | .half => { s with openMinute := some o }
  | .opened => s
  | .ended => s

/-- FRAME_OPEN (R8, R9, R11, R12, R14). -/
def frameOpenBody : Body := fun _ args s =>
  match args with
  | [hi, lo] =>
    let o := u16 hi lo
    if 1439 < o then reject .badArgument
    else
      match otherMinute s.openMinute s.closeMinute s with
      | some z =>
        if !pairAllowed o z s.now then reject .badArgument
        else if !s.clockSet then reject .clockUnset
        else accept (confirm o z s) []
      | none =>
        if !s.clockSet then reject .clockUnset
        else if s.started then reject .frameState
        else accept (writeOpen o s) []
  | _ => reject .badArgument

/-- FRAME_CLOSE's effect outside a confirmation and outside OPEN (R9, R11, R16). -/
def writeClose (z : Nat) (s : State) : State :=
  match s.day with
  | .armed => raiseAll .frame (emptyBook { s with openMinute := none, closeMinute := some z, day := .half })
  | .unset => raiseAll .frame { s with closeMinute := some z, day := .half }
  | .half => { s with closeMinute := some z }
  | .opened => s
  | .ended => s

/-- The conditions of a new Z in OPEN: at least now + 2, and Z less O at least 30 (R12). -/
def moveAllowed (o z now : Nat) : Bool := decide (now + 1 < z) && decide (o + Config.leastFrame ≤ z)

/-- The move of Z in OPEN: lists lengthened or shortened, WINDOW where a list's count changes, the offers recomputed; a
Z equal to the present one changes nothing (R12, R91, R92, R102, R109; log 17). -/
def moveClose (z : Nat) (s : State) : State :=
  if z = s.z then s
  else
    let resize := fun (r : Attraction) => { r with windows := r.windows.map (resized s.o z r.desc (decide (s.z < z))) }
    raiseWindow (fun a => (s.att a).list.length != (resize (s.att a)).list.length)
      (recomputeOffers ({ s with closeMinute := some z }.mapAtts resize))

/-- FRAME_CLOSE (R8, R9, R11, R12, R14). -/
def frameCloseBody : Body := fun _ args s =>
  match args with
  | [hi, lo] =>
    let z := u16 hi lo
    if 1439 < z then reject .badArgument
    else
      match otherMinute s.closeMinute s.openMinute s with
      | some o =>
        if !pairAllowed o z s.now then reject .badArgument
        else if !s.clockSet then reject .clockUnset
        else accept (confirm o z s) []
      | none =>
        if s.day = .opened ∧ !moveAllowed s.o z s.now then reject .badArgument
        else if !s.clockSet then reject .clockUnset
        else if s.day = .ended then reject .frameState
        else if s.day = .opened then
          if z < s.z ∧ s.attractions.toList.any (cutInUse s.o z) then reject .inUse
          else accept (moveClose z s) []
        else accept (writeClose z s) []
  | _ => reject .badArgument

/-- FRAME_OPEN at a port. -/
def execFrameOpen (p : PortNo) (s : State) : Host.Outcome State Fault Refusal :=
  .next (carryOut .frameOpen frameOpenBody p s)

/-- FRAME_CLOSE at a port. -/
def execFrameClose (p : PortNo) (s : State) : Host.Outcome State Fault Refusal :=
  .next (carryOut .frameClose frameCloseBody p s)

/-! ## CLEAR_DAY -/

/-- An attraction after its counts are zeroed at a close (R48). -/
def zeroCounts (r : Attraction) : Attraction := { r with q := 0, m := 0, riders := 0 }

/-- Whether an attraction is OPERATING or DOWN. -/
def Attraction.running (r : Attraction) : Bool := r.state = .operating || r.state = .down

/-- An attraction at CLEAR_DAY: OPERATING and DOWN go to CLOSED with the counts 0 (R15, R37). -/
def clearRecord (r : Attraction) : Attraction := if r.running then { zeroCounts r with state := .closed } else r

/-- CLEAR_DAY's effect (R15, R16, R37). -/
def clearDay (s : State) : State :=
  raiseAllIf (s.day != .unset) .frame
    (raiseAllIf (s.attractions.toList.any (·.running)) .attraction
      ((emptyBook { s with day := .unset, openMinute := none, closeMinute := none }).mapAtts clearRecord))

/-- CLEAR_DAY (R15). -/
def clearDayBody : Body := fun _ args s =>
  match args with
  | [] => if s.day = .opened then reject .frameState else accept (clearDay s) []
  | _ => reject .badArgument

/-- CLEAR_DAY at a port. -/
def execClearDay (p : PortNo) (s : State) : Host.Outcome State Fault Refusal :=
  .next (carryOut .clearDay clearDayBody p s)

end Sys2Proof.Machine
end

