-- ==== Sys2Proof/Machine/Events.lean ====
section
/-! DEFINITION. STATUS, ACK_EVENTS, SET_EVENTS, and the refusal of an unknown kind (R168, R178 to R180). -/

namespace Sys2Proof.Machine

/-- STATUS (R180, R185). -/
def statusBody : Body := fun p args s =>
  match args with
  | [] =>
    let q := s.port p
    accept s ([q.flags, q.enable, q.level, byte (leadingEvent q), byte q.role.code, byte s.day.code] ++ timeBytes s.clock)
  | _ => reject .badArgument

/-- ACK_EVENTS: the named flags are cleared, and the level-type ones whose condition holds set again (R178). -/
def ackEventsBody : Body := fun p args s =>
  match args with
  | [mask] =>
    let t := settle (s.updPort p fun q => { q with flags := q.flags &&& ~~~mask })
    accept t [(t.port p).flags, byte (leadingEvent (t.port p))]
  | _ => reject .badArgument

/-- SET_EVENTS: both masks are replaced (R179). -/
def setEventsBody : Body := fun p args s =>
  match args with
  | [enable, level] => accept (s.updPort p fun q => { q with enable := enable, level := level }) [enable, level]
  | _ => reject .badArgument

/-- The body of an unknown kind, which the check order never reaches (R167). -/
def unknownBody : Body := fun _ _ _ => reject .unknownRequest

/-- STATUS at a port. -/
def execStatus (p : PortNo) (s : State) : Host.Outcome State Fault Refusal := .next (carryOut .status statusBody p s)

/-- ACK_EVENTS at a port. -/
def execAckEvents (p : PortNo) (s : State) : Host.Outcome State Fault Refusal :=
  .next (carryOut .ackEvents ackEventsBody p s)

/-- SET_EVENTS at a port. -/
def execSetEvents (p : PortNo) (s : State) : Host.Outcome State Fault Refusal :=
  .next (carryOut .setEvents setEventsBody p s)

/-- A request of an unknown kind at a port (R168). -/
def execUnknownRequest (p : PortNo) (s : State) : Host.Outcome State Fault Refusal :=
  .next (carryOut .unknownRequest unknownBody p s)

end Sys2Proof.Machine
end

