-- ==== Sys2Proof/Machine/Links.lean ====
section
/-! DEFINITION. The select period of a port: what PDO shows, PSEL_FALL and PSEL_RISE (R158, R160 to R163). -/

namespace Sys2Proof.Machine

/-- What a link state fixes at the fall of PSEL (R160). -/
def periodOf : Link → Period
  | .ready reply => ⟨.ready, reply⟩
  | .working _ => ⟨.working, [notReady]⟩
  | .idle => ⟨.idle, [emptyMarker]⟩

/-- The first n bytes a period shifts out: the bytes fixed at its fall, then zeros (R160). -/
def Period.shifted (x : Period) (n : Nat) : List Byte := x.out.take n ++ List.replicate (n - x.out.length) 0

/-- The bit of PDO in a period after n falling edges of PCLK: the most significant bit of the first byte at the fall of PSEL,
and one bit more at each edge, each byte most significant bit first, and zeros behind the last (R158, R160; log 15). -/
def Period.pdo (x : Period) (n : Nat) : Bool := (x.out.getD (n / 8) 0).getLsbD (7 - n % 8)

/-- What a port drives on PDO after n falling edges of PCLK, none being high impedance: with no select period in progress PSEL
is high, or a reset has released the pin (R158, R175; log 15). -/
def Port.pdo (q : Port) (n : Nat) : Option Bool := q.period.map (·.pdo n)

/-- What the part drives on the PDO of a port after n falling edges of PCLK in its select period (R158). -/
def State.pdo (s : State) (p : PortNo) (n : Nat) : Option Bool := (s.port p).pdo n

/-- PSEL_FALL: a select period begins; with a period in progress PSEL is low and cannot fall (R160; log 3). -/
def execPselFall (p : PortNo) (s : State) : Host.Outcome State Fault Refusal :=
  .next
    (match (s.port p).period with
    | none => s.updPort p fun q => { q with period := some (periodOf q.link) }
    | some _ => s)

/-- Whether a period's bytes carry a request: the first is not 0 (R161). -/
def carriesRequest (bytes : List Byte) : Bool := bytes.headD 0 != 0

/-- The link state after the rise of PSEL: the reply settled first (R162), then the request (R163). -/
def linkAfterRise (x : Period) (bytes : List Byte) (link : Link) : Link :=
  match x.atFall with
  | .working => link
  | .idle => if carriesRequest bytes then .working (bytes.take longestRequest) else link
  | .ready =>
    if carriesRequest bytes then .working (bytes.take longestRequest)
    else if x.out.length ≤ bytes.length then .idle
    else link

/-- PSEL_RISE: the select period ends. A rise with no period in progress follows a reset taken while PSEL was low, and
nothing was counted (R163, R174, R175). -/
def execPselRise (p : PortNo) (bits : List Bool) (s : State) : Host.Outcome State Fault Refusal :=
  .next
    (match (s.port p).period with
    | some x => s.updPort p fun q => { q with link := linkAfterRise x (bytesOfBits bits) q.link, period := none }
    | none => s)

end Sys2Proof.Machine
end

