-- ==== Sys2Proof/Machine/Passes.lean ====
section
/-! DEFINITION. The Pass Registry: ISSUE, REDEEM, CANCEL, READ_PASS (R105, R106, R110 to R132). -/

namespace Sys2Proof.Machine

/-! ## ISSUE -/

/-- The checks of ISSUE on the port's selection, the frame and the attraction, and its pass share: the attraction the
shadow names, or the first refusal (R118, R119). -/
def issueChecks (p : PortNo) (s : State) : Except ResultCode AttrNo :=
  match (s.port p).shadow with
  | none => .error .noSelection
  | some x =>
    let r := s.att x.attraction
    if x.generation ≠ r.generation then .error .stale
    else if s.day ≠ .opened then .error .frameState
    else if r.state ≠ .operating then .error .rideState
    else if r.desc.share = 0 then .error .noWindow
    else .ok x.attraction

/-- The pass an accepted ISSUE writes (R120). -/
def newPass (p : PortNo) (a : AttrNo) (w n : Nat) (s : State) : Pass := ⟨a, w, n, .issued, s.now, p, none⟩

/-- Books a party of n into window w of an attraction: the slot is allocated, B rises, the offer is recomputed; with an
empty free queue the request is refused with TABLE_FULL (R113, R119, R120). -/
def issueInto (p : PortNo) (a : AttrNo) (w n : Nat) (s : State) : Answer :=
  match s.allocate (newPass p a w n s) with
  | none => reject .tableFull
  | some (t, id) =>
    let r := s.att a
    accept
      (recomputeOffer a (t.updAtt a fun r => r.updWindow w fun x => { x with booked := x.booked + n }))
      (be16 id ++ [byte w] ++ be16 (windowStart s.o r.desc w) ++ be16 (windowEnd s.o r.desc w))

/-- ISSUE in mode EARLIEST, and with a mode that is neither (R105, R117). -/
def issueEarliestBody : Body := fun p args s =>
  match args with
  | [mode, _, party] =>
    if mode ≠ 0 ∨ party.toNat < 1 ∨ 8 < party.toNat then reject .badArgument
    else
      match issueChecks p s with
      | .error c => reject c
      | .ok a =>
        match chooseEarliest s.o s.now (s.att a) party.toNat with
        | none => reject .noWindow
        | some w => issueInto p a w party.toNat s
  | _ => reject .badArgument

/-- The count an AT index is checked against: the list of the attraction the shadow names, or 64 where there is no
selection (R106, R117). -/
def indexLimit (p : PortNo) (s : State) : Nat :=
  match (s.port p).shadow with
  | some x => (s.att x.attraction).list.length
  | none => Config.maxWindows

/-- The tests of mode AT on a window, the first failing one giving the result (R106). -/
def atTest (s : State) (r : Attraction) (w n : Nat) (x : Window) : Option ResultCode :=
  if x.state ≠ .future ∧ x.state ≠ .opened then some .noWindow
  else if windowStart s.o r.desc w < s.now + r.desc.minLead then some .tooSoon
  else if x.quota < x.booked + n then some .windowFull
  else none

/-- ISSUE in mode AT (R106, R117). -/
def issueAtBody : Body := fun p args s =>
  match args with
  | [_, window, party] =>
    if party.toNat < 1 ∨ 8 < party.toNat ∨ indexLimit p s ≤ window.toNat then reject .badArgument
    else
      match issueChecks p s with
      | .error c => reject c
      | .ok a =>
        match (s.att a).window window.toNat with
        | none => reject .badArgument
        | some x =>
          match atTest s (s.att a) window.toNat party.toNat x with
          | some c => reject c
          | none => issueInto p a window.toNat party.toNat s
  | _ => reject .badArgument

/-- ISSUE in mode EARLIEST at a port. -/
def execIssueEarliest (p : PortNo) (s : State) : Host.Outcome State Fault Refusal :=
  .next (carryOut .issueEarliest issueEarliestBody p s)

/-- ISSUE in mode AT at a port. -/
def execIssueAt (p : PortNo) (s : State) : Host.Outcome State Fault Refusal :=
  .next (carryOut .issueAt issueAtBody p s)

/-! ## REDEEM and CANCEL -/

/-- The pass an id names, if it is ISSUED, or the refusal its state gives (R121, R124). -/
def issuedPass (s : State) (id : Nat) : Except ResultCode Pass :=
  match s.resolve id with
  | none => .error .unknownPass
  | some r =>
    match r.state with
    | .issued => .ok r
    | .redeemed => .error .alreadyUsed
    | .expired => .error .expired
    | .voided => .error .voided

/-- The window state of a pass, FUTURE where the list does not hold it, which no run reaches (R115; log 13). -/
def windowStateOf (s : State) (r : Pass) : WindowState :=
  (((s.att r.attraction).window r.window).map (·.state)).getD .future

/-- An accepted REDEEM: the pass REDEEMED now, A and M raised by the party (R123). -/
def redeemEffect (id : Nat) (r : Pass) (s : State) : State :=
  (s.setPass (slotOf id) { r with state := .redeemed, redeemedAt := some s.now }).updAtt r.attraction fun x =>
    { x.updWindow r.window (fun y => { y with arrived := y.arrived + r.party }) with m := satAdd 65535 x.m r.party }

/-- REDEEM (R121 to R123). -/
def redeemBody : Body := fun _ args s =>
  match args with
  | [hi, lo] =>
    match issuedPass s (u16 hi lo) with
    | .error c => reject c
    | .ok r =>
      let x := s.att r.attraction
      if x.state ≠ .operating then reject .rideState
      else if windowStateOf s r = .future then .error ⟨.tooEarly, be16 (openingReply s.o x.desc r.window)⟩
      else
        accept (redeemEffect (u16 hi lo) r s)
          ([hi, lo, byte r.attraction.val, byte r.window, byte r.party] ++ be16 s.now)
  | _ => reject .badArgument

/-- An accepted CANCEL: B lowered by the party, the slot freed, the offer recomputed (R124). -/
def cancelEffect (id : Nat) (r : Pass) (s : State) : State :=
  recomputeOffer r.attraction ((s.freeSlot (slotOf id)).updAtt r.attraction fun x =>
    x.updWindow r.window fun y => { y with booked := y.booked - r.party })

/-- CANCEL (R124). -/
def cancelBody : Body := fun _ args s =>
  match args with
  | [hi, lo] =>
    match issuedPass s (u16 hi lo) with
    | .error c => reject c
    | .ok r => accept (cancelEffect (u16 hi lo) r s) [byte r.attraction.val, byte r.window, byte r.party]
  | _ => reject .badArgument

/-- REDEEM at a port. -/
def execRedeem (p : PortNo) (s : State) : Host.Outcome State Fault Refusal := .next (carryOut .redeem redeemBody p s)

/-- CANCEL at a port. -/
def execCancel (p : PortNo) (s : State) : Host.Outcome State Fault Refusal := .next (carryOut .cancel cancelBody p s)

/-! ## READ_PASS -/

/-- READ_PASS (R125, R187). -/
def readPassBody : Body := fun _ args s =>
  match args with
  | [hi, lo] =>
    match s.resolve (u16 hi lo) with
    | none => reject .unknownPass
    | some r =>
      let d := (s.att r.attraction).desc
      accept s (passBytes (u16 hi lo) r (windowStart s.o d r.window) (windowEnd s.o d r.window) (windowStateOf s r))
  | _ => reject .badArgument

/-- READ_PASS at a port. -/
def execReadPass (p : PortNo) (s : State) : Host.Outcome State Fault Refusal :=
  .next (carryOut .readPass readPassBody p s)

end Sys2Proof.Machine
end

