-- ==== Sys2Proof/Machine/Reads.lean ====
section
/-! DEFINITION. SELECT and the reads of postings and windows (R138, R139, R141, R170). -/

namespace Sys2Proof.Machine

/-- The shadow SELECT copies from an attraction (R170). -/
def shadowOf (a : AttrNo) (r : Attraction) : Shadow :=
  ⟨a, r.generation, r.desc.length, r.desc.share, r.desc.minLead, r.list.length⟩

/-- The six terms of a shadow as a reply carries them (R185). -/
def shadowBytes (x : Shadow) : List Byte :=
  [byte x.attraction.val, byte x.generation, byte x.length, byte x.share, byte x.minLead, byte x.windowCount]

/-- SELECT (R170). -/
def selectBody : Body := fun p args s =>
  match args with
  | [index] =>
    match attrOf index with
    | none => reject .badArgument
    | some a =>
      if (s.att a).state = .unused then reject .noAttraction
      else
        accept (s.updPort p fun q => { q with shadow := some (shadowOf a (s.att a)) })
          (shadowBytes (shadowOf a (s.att a)))
  | _ => reject .badArgument

/-- A port's change set less some of its members (R137). -/
def withoutMembers (taken : List AttrNo) (v : Vector Bool Config.attractions) : Vector Bool Config.attractions :=
  Vector.ofFn fun a => v[a] && !taken.contains a

/-- READ_POSTING (R138). -/
def readPostingBody : Body := fun p args s =>
  match args with
  | [index] =>
    match attrOf index with
    | none => reject .badArgument
    | some a =>
      accept (s.updPort p fun q => { q with changed := withoutMembers [a] q.changed }) (postingBytes a s.postings[a])
  | _ => reject .badArgument

/-- READ_CHANGED (R139). -/
def readChangedBody : Body := fun p args s =>
  match args with
  | [] =>
    let all := members (s.port p).changed
    let taken := all.take 6
    accept (s.updPort p fun q => { q with changed := withoutMembers taken q.changed })
      (byte (all.length - taken.length) :: taken.flatMap fun a => postingBytes a s.postings[a])
  | _ => reject .badArgument

/-- The window records from an index up to a count of them, each with its index, start and end (R141, R142). -/
def windowRecords (o : Nat) (r : Attraction) (first count : Nat) : List Byte :=
  (((r.list.mapIdx fun w x => windowBytes w (windowStart o r.desc w) (windowEnd o r.desc w) x).drop first).take
    count).flatten

/-- READ_WINDOWS (R141). -/
def readWindowsBody : Body := fun p args s =>
  match args with
  | [first, count] =>
    if count.toNat < 1 ∨ 8 < count.toNat then reject .badArgument
    else
      match (s.port p).shadow with
      | none => reject .noSelection
      | some x =>
        let r := s.att x.attraction
        if x.generation ≠ r.generation then reject .stale
        else accept s ([byte x.attraction.val, byte r.list.length] ++ windowRecords s.o r first.toNat count.toNat)
  | _ => reject .badArgument

/-- SELECT at a port. -/
def execSelect (p : PortNo) (s : State) : Host.Outcome State Fault Refusal := .next (carryOut .select selectBody p s)

/-- READ_POSTING at a port. -/
def execReadPosting (p : PortNo) (s : State) : Host.Outcome State Fault Refusal :=
  .next (carryOut .readPosting readPostingBody p s)

/-- READ_CHANGED at a port. -/
def execReadChanged (p : PortNo) (s : State) : Host.Outcome State Fault Refusal :=
  .next (carryOut .readChanged readChangedBody p s)

/-- READ_WINDOWS at a port. -/
def execReadWindows (p : PortNo) (s : State) : Host.Outcome State Fault Refusal :=
  .next (carryOut .readWindows readWindowsBody p s)

end Sys2Proof.Machine
end

