-- ==== Sys2Proof/Machine/Resets.lean ====
section
/-! DEFINITION. The two resets (R174, R175). -/

namespace Sys2Proof.Machine

/-- POWER_ON: every piece of the part's state at its power-on value; the model's queue and its count of free choices are
no state of the part and stay (R174; log 22). -/
def execPowerOn (straps : Straps) (s : State) : Host.Outcome State Fault Refusal :=
  .next { State.powerOn straps with choice := s.choice, pending := s.pending }

/-- A port after a line reset: a new role, IDLE, no shadow, flags and masks clear, the change set refilled with every
attraction in use (R137, R175, R182). -/
def resetPort (s : State) (straps : Straps) (p : PortNo) : Port :=
  .fresh (Strap.role straps[p]) (mapV Attraction.inUse s.attractions)

/-- A line reset (R3, R18, R61, R137, R156, R175): the clock, frame, table, book, passes, postings and board list are
kept. -/
def lineReset (straps : Straps) (s : State) : State :=
  { s with
    pendingClock := none
    lines := mapV disarm s.lines
    dirty := mapV (fun e => e.binding.isSome) s.entries
    refresh := 0
    board := .resynchronising
    ports := Vector.ofFn (resetPort s straps) }

/-- LINE_RESET. The level-type flags whose conditions hold are set again at the same event (R182). -/
def execLineReset (straps : Straps) (s : State) : Host.Outcome State Fault Refusal :=
  .next (settle (lineReset straps s))

end Sys2Proof.Machine
end

