-- ==== Sys2Proof/Machine/Samples.lean ====
section
/-! DEFINITION. The count-line samples, BIND_LINE, and the counts a master reports or corrects (R42, R43, R46, R53 to
R57). -/

namespace Sys2Proof.Machine

/-- MILLISECOND_SAMPLE (R53). -/
def execMillisecondSample (levels : Levels) (s : State) : Host.Outcome State Fault Refusal :=
  .next (sampleLines levels s)

/-- Whether a sample qualifies a line's candidate: the line is ARMED, and its count at the other level reaches q (R53). -/
def qualifiesAt (level : Bool) : Line → Bool
  | .armed b settled candidate => level != settled && decide (b.qualify ≤ candidate.getD 0 + 1)
  | .unbound => false
  | .unarmed _ _ _ => false

/-- QUALIFIED_TRANSITION: the sample that qualifies the line's candidate; for any other sample there is no such step
(R53; log 3, log 4). -/
def execQualifiedTransition (l : LineNo) (levels : Levels) (s : State) : Host.Outcome State Fault Refusal :=
  .next (if qualifiesAt levels[l] s.lines[l] then sampleLines levels s else s)

/-- Whether a sample arms a line (R56). -/
def armsAt (level : Bool) (x : Line) : Bool :=
  match x, (sampleLine level x).1 with
  | .unarmed _ _ _, .armed _ _ _ => true
  | _, _ => false

/-- LINE_ARMING: the sample that arms the line; for any other sample there is no such step (R56; log 3, log 4). -/
def execLineArming (l : LineNo) (levels : Levels) (s : State) : Host.Outcome State Fault Refusal :=
  .next (if armsAt levels[l] s.lines[l] then sampleLines levels s else s)

/-! ## BIND_LINE -/

/-- The code of a line's state (R184). -/
def Line.code : Line → Nat
  | .unbound => 0
  | .unarmed _ _ _ => 1
  | .armed _ _ _ => 2

/-- The settled level as a reply carries it: 2 unless the line is ARMED (R185). -/
def Line.settledCode : Line → Nat
  | .armed _ settled _ => bit settled 0
  | .unbound => 2
  | .unarmed _ _ _ => 2

/-- The four binding fields as a reply carries them, zeros for an UNBOUND line (R185). -/
def bindingBytes (b : Option Binding) : List Byte :=
  match b with
  | some b => [byte b.attraction.val, byte b.kind.code, byte b.edge.code, byte b.qualify]
  | none => [0, 0, 0, 0]

/-- The BIND_LINE reply (R185). -/
def lineReply (l : LineNo) (x : Line) : List Byte :=
  [byte l.val, byte x.code] ++ bindingBytes x.binding? ++ [byte x.settledCode]

/-- The qualify time a field selects: 20 for 0, none for 1 and above 60 (R54). -/
def qualifyOf (b : Byte) : Option Nat :=
  if b.toNat = 0 then some Config.defaultQualify else if 2 ≤ b.toNat ∧ b.toNat ≤ 60 then some b.toNat else none

/-- BIND_LINE with operation BIND, and with an operation that is none of the three (R54). -/
def bindBody : Body := fun _ args s =>
  match args with
  | [line, op, attraction, kind, edge, qualify] =>
    match lineOf line, attrOf attraction, kindOf kind, edgeOf edge, qualifyOf qualify with
    | some l, some a, some k, some e, some q =>
      if op ≠ 0 then reject .badArgument
      else if (s.att a).state = .unused then reject .noAttraction
      else accept (s.setLine l (.unarmed ⟨a, k, e, q⟩ 0 false)) (lineReply l (.unarmed ⟨a, k, e, q⟩ 0 false))
    | _, _, _, _, _ => reject .badArgument
  | _ => reject .badArgument

/-- BIND_LINE with operation UNBIND (R55). -/
def unbindBody : Body := fun _ args s =>
  match args with
  | [line, _, _, _, _, _] =>
    match lineOf line with
    | some l => accept (s.setLine l .unbound) (lineReply l .unbound)
    | none => reject .badArgument
  | _ => reject .badArgument

/-- BIND_LINE with operation INQUIRE (R55). -/
def inquireBody : Body := fun _ args s =>
  match args with
  | [line, _, _, _, _, _] =>
    match lineOf line with
    | some l => accept s (lineReply l s.lines[l])
    | none => reject .badArgument
  | _ => reject .badArgument

/-- BIND at a port. -/
def execBind (p : PortNo) (s : State) : Host.Outcome State Fault Refusal := .next (carryOut .bind bindBody p s)

/-- UNBIND at a port. -/
def execUnbind (p : PortNo) (s : State) : Host.Outcome State Fault Refusal := .next (carryOut .unbind unbindBody p s)

/-- INQUIRE at a port. -/
def execInquire (p : PortNo) (s : State) : Host.Outcome State Fault Refusal := .next (carryOut .inquire inquireBody p s)

/-! ## Reports and corrections -/

/-- ENTRY_REPORT (R42). -/
def entryReportBody : Body := fun _ args s =>
  match args with
  | [index, count] =>
    match attrOf index with
    | none => reject .badArgument
    | some a =>
      if 63 < count.toNat then reject .badArgument
      else if (s.att a).state = .unused then reject .noAttraction
      else
        let t := s.updAtt a (applyEntry count.toNat)
        accept t (countBytes (t.att a))
  | _ => reject .badArgument

/-- The riders of a report that are applied: clamped to the seats, 0 when the report is ignored (R43). -/
def ridersApplied (n : Nat) (r : Attraction) : Nat := if r.state = .operating then min n r.desc.seats else 0

/-- DISPATCH_REPORT (R43). -/
def dispatchReportBody : Body := fun _ args s =>
  match args with
  | [index, count] =>
    match attrOf index with
    | none => reject .badArgument
    | some a =>
      if (s.att a).state = .unused then reject .noAttraction
      else
        let n := ridersApplied count.toNat (s.att a)
        let t := s.updAtt a (applyDispatch n)
        accept t (byte n :: countBytes (t.att a))
  | _ => reject .badArgument

/-- QUEUE_SET (R46). -/
def queueSetBody : Body := fun _ args s =>
  match args with
  | [index, hi, lo] =>
    match attrOf index with
    | none => reject .badArgument
    | some a =>
      if (s.att a).state = .unused then reject .noAttraction
      else if (s.att a).state = .closed then reject .rideState
      else
        let t := s.updAtt a fun r => { r with q := u16 hi lo }
        accept t (countBytes (t.att a))
  | _ => reject .badArgument

/-- ENTRY_REPORT at a port. -/
def execEntryReport (p : PortNo) (s : State) : Host.Outcome State Fault Refusal :=
  .next (carryOut .entryReport entryReportBody p s)

/-- DISPATCH_REPORT at a port. -/
def execDispatchReport (p : PortNo) (s : State) : Host.Outcome State Fault Refusal :=
  .next (carryOut .dispatchReport dispatchReportBody p s)

/-- QUEUE_SET at a port. -/
def execQueueSet (p : PortNo) (s : State) : Host.Outcome State Fault Refusal :=
  .next (carryOut .queueSet queueSetBody p s)

end Sys2Proof.Machine
end

