-- ==== Sys2Proof/Machine/Signs.lean ====
section
/-! DEFINITION. The Board Line Unit: the board list, the scan, the frame in flight (R145 to R157). -/

namespace Sys2Proof.Machine

/-! ## What an entry sends -/

/-- The automatic content of an entry from its posting (R149). -/
def autoFrame (b : SignBinding) (x : Posting) : SignFrame :=
  let plain (k : SignKind) : SignFrame := ⟨b.address, k, 0, 0, false, false, 0⟩
  match x.marker with
  | .down => plain .down
  | .closed => plain .closed
  | .unused => plain .blank
  | .operating =>
    match b.content, x.shown with
    | .wait, some f => ⟨b.address, .wait, f.posted / 256, f.posted % 256, f.overFlag, f.aged, 0⟩
    | .wait, none => ⟨b.address, .wait, 0, 0, false, false, 0⟩
    | .ret, some f =>
      match f.nextReturn with
      | some m => ⟨b.address, .ret, m / 60, m % 60, false, false, 0⟩
      | none => plain .none
    | .ret, none => plain .none

/-- The frame of a valid entry: an OVERRIDE frame while its code is not 0, else its automatic content (R149). -/
def frameOf (b : SignBinding) (override : Nat) (x : Posting) : SignFrame :=
  if override = 0 then autoFrame b x else ⟨b.address, .override, 0, 0, false, false, override⟩

/-! ## The scan -/

/-- Whether an entry is valid (R145). -/
def State.valid (s : State) (e : EntryNo) : Bool := s.entries[e].binding.isSome

/-- Whether any entry is valid (R152). -/
def State.anyValid (s : State) : Bool := s.entries.toList.any fun x => x.binding.isSome

/-- The lowest-numbered member of the dirty set; only valid entries are members (R150, R153; log 13). -/
def lowestDirty (s : State) : Option EntryNo := (List.finRange Config.entries).find? fun e => s.dirty[e] && s.valid e

/-- The entry numbers in refresh order: from the pointer up to 63, and on from 0 (R153). -/
def refreshOrder (from_ : EntryNo) : List EntryNo :=
  (List.finRange Config.entries).filter (fun e => from_ ≤ e) ++ (List.finRange Config.entries).filter (fun e => e < from_)

/-- The first valid entry in refresh order (R153). -/
def nextRefresh (s : State) : Option EntryNo := (refreshOrder s.refresh).find? s.valid

/-- Whether no valid entry lies above one (R153). -/
def lastValid (s : State) (e : EntryNo) : Bool := (List.finRange Config.entries).all fun x => !(decide (e < x) && s.valid x)

/-- The number after an entry's, 64 becoming 0 (R153). -/
def afterEntry (e : EntryNo) : EntryNo := ⟨(e.val + 1) % Config.entries, Nat.mod_lt _ (by decide)⟩

/-- Starts a frame for an entry: its content is latched, and it leaves the dirty set (R154). -/
def sendEntry (e : EntryNo) (passEnd : Bool) (s : State) : State :=
  match s.entries[e].binding with
  | some b =>
    { s with
      dirty := s.dirty.set e false
      board := .sending (frameOf b s.entries[e].override s.postings[b.attraction]) passEnd }
  | none => s

/-- A frame start: the lowest dirty entry, or the next in refresh order, which moves the pointer and may end a pass; with
no valid entry the line goes IDLE (R152, R153). -/
def startFrame (s : State) : State :=
  match lowestDirty s with
  | some e => sendEntry e false s
  | none =>
    match nextRefresh s with
    | some e => sendEntry e (lastValid s e) { s with refresh := afterEntry e }
    | none => { s with board := .idle }

/-- FRAME_COMPLETION: SCAN where the frame ended a pass, then the next frame or IDLE; with no frame in flight there is no
such step (R152, R155; log 3). -/
def execFrameCompletion (s : State) : Host.Outcome State Fault Refusal :=
  .next
    (match s.board with
    | .sending _ passEnd => startFrame (if passEnd then raiseScan s else s)
    | .idle => s
    | .resynchronising => s)

/-- RESYNCHRONISING_GAP_END: a frame starts if any entry is valid, else the line is IDLE; outside the gap there is no
such step (R152, R156; log 3). -/
def execResynchronisingGapEnd (s : State) : Host.Outcome State Fault Refusal :=
  .next
    (match s.board with
    | .resynchronising => startFrame s
    | .idle => s
    | .sending _ _ => s)

/-! ## The board list -/

/-- Marks an entry dirty if it is valid (R150). -/
def markDirty (e : EntryNo) (s : State) : State := if s.valid e then s.setDirty e true else s

/-- The BOARD_SET reply (R185). -/
def entryReply (e : EntryNo) (x : BoardEntry) : List Byte :=
  match x.binding with
  | some b => [byte e.val, 1, byte b.address, byte b.attraction.val, byte b.content.code, byte x.override]
  | none => [byte e.val, 0, 0, 0, 0, byte x.override]

/-- The effect of an accepted BOARD_SET with the valid flag set: the entry bound and dirty, and an IDLE line started
(R146, R152). -/
def bindEntry (e : EntryNo) (b : SignBinding) (s : State) : State :=
  let t := markDirty e (s.setEntry e { s.entries[e] with binding := some b })
  match t.board with
  | .idle => startFrame t
  | .sending _ _ => t
  | .resynchronising => t

/-- BOARD_SET with the valid flag set, and with a valid byte that is neither 0 nor 1 (R146, R184). -/
def boardSetBody : Body := fun _ args s =>
  match args with
  | [entry, valid, address, attraction, content] =>
    match entryOf entry, attrOf attraction, contentOf content with
    | some e, some a, some c =>
      if valid ≠ 1 ∨ address = 0 ∨ address = 255 then reject .badArgument
      else accept (bindEntry e ⟨address.toNat, a, c⟩ s) (entryReply e ⟨some ⟨address.toNat, a, c⟩, s.entries[e].override⟩)
    | _, _, _ => reject .badArgument
  | _ => reject .badArgument

/-- BOARD_SET with the valid flag clear (R147). -/
def boardSetClearBody : Body := fun _ args s =>
  match args with
  | [entry, _, _, _, _] =>
    match entryOf entry with
    | some e => accept ((s.setEntry e ⟨none, 0⟩).setDirty e false) (entryReply e ⟨none, 0⟩)
    | none => reject .badArgument
  | _ => reject .badArgument

/-- BOARD_OVERRIDE (R148). -/
def boardOverrideBody : Body := fun _ args s =>
  match args with
  | [entry, code] =>
    match entryOf entry with
    | some e =>
      if 15 < code.toNat then reject .badArgument
      else accept (markDirty e (s.setEntry e { s.entries[e] with override := code.toNat })) [byte e.val, code]
    | none => reject .badArgument
  | _ => reject .badArgument

/-- BOARD_SET at a port. -/
def execBoardSet (p : PortNo) (s : State) : Host.Outcome State Fault Refusal :=
  .next (carryOut .boardSet boardSetBody p s)

/-- BOARD_SET with the valid flag clear, at a port. -/
def execBoardSetClear (p : PortNo) (s : State) : Host.Outcome State Fault Refusal :=
  .next (carryOut .boardSetClear boardSetClearBody p s)

/-- BOARD_OVERRIDE at a port. -/
def execBoardOverride (p : PortNo) (s : State) : Host.Outcome State Fault Refusal :=
  .next (carryOut .boardOverride boardOverrideBody p s)

end Sys2Proof.Machine
end

