-- ==== Sys2Proof/Machine/Table.lean ====
section
/-! DEFINITION. The Attraction Table: CONFIGURE, RELEASE, SET_STATE, READ_ATTRACTION (R19 to R39, R143). -/

namespace Sys2Proof.Machine

/-! ## CONFIGURE -/

/-- The list a CONFIGURE of an UNUSED record is given: built in ARMED, built by time in OPEN, none otherwise (R23). -/
def firstList (s : State) (d : Descriptor) : Option (List Window) :=
  match s.day with
  | .armed => some (builtList s.o s.z d)
  | .opened => some (builtByTime s.now s.o s.z d false)
  | .unset => none
  | .half => none
  | .ended => none

/-- CONFIGURE of an UNUSED record (R23, R102). -/
def configureNew (a : AttrNo) (d : Descriptor) (s : State) : State :=
  let windows := firstList s d
  let t := s.updAtt a fun r =>
    { r with state := .closed, desc := d, generation := 0, q := 0, m := 0, riders := 0, windows := windows }
  raiseAll .attraction (if windows.isSome then raiseWindow (· = a) t else t)

/-- Whether a CONFIGURE of a record in use rebuilds its list: a change of L in an ARMED frame (R25, R93). -/
def rebuilds (s : State) (r : Attraction) (d : Descriptor) : Bool := r.desc.length != d.length && s.day = .armed

/-- A record in use after a CONFIGURE, before any computation: the fields, the generation, the age counter cut to the
new limit, and the list rebuilt or its FUTURE quotas recomputed (R24, R25, R26, R104). -/
def reconfigured (s : State) (d : Descriptor) (r : Attraction) : Attraction :=
  { r with
    desc := d
    generation := (r.generation + 1) % 256
    ageCounter := min r.ageCounter d.ageLimit
    windows := if rebuilds s r d then some (builtList s.o s.z d) else r.windows.map (List.map (requota d)) }

/-- CONFIGURE of a record in use: an OPERATING attraction is computed and posted at once, and its offer recomputed (R24
to R26, R102, R104, R109). -/
def configureUsed (a : AttrNo) (d : Descriptor) (s : State) : State :=
  let t := s.updAtt a (reconfigured s d)
  let u := if (s.att a).state = .operating then recomputeOffer a (t.updAtt a (immediate s.o s.now)) else t
  if rebuilds s (s.att a) d then raiseWindow (· = a) u else u

/-- CONFIGURE (R20 to R26). -/
def configureBody : Body := fun _ args s =>
  match args with
  | index :: fields =>
    match attrOf index, readDescriptor fields with
    | some a, some d =>
      if !d.inRange then reject .badArgument
      else if !d.combines then reject .badCombination
      else if (s.att a).state = .unused then accept (configureNew a d s) [0]
      else if (s.att a).desc.length ≠ d.length ∧ s.started then reject .frameState
      else
        let t := configureUsed a d s
        accept t [byte (t.att a).generation]
    | _, _ => reject .badArgument
  | [] => reject .badArgument

/-- CONFIGURE at a port. -/
def execConfigure (p : PortNo) (s : State) : Host.Outcome State Fault Refusal :=
  .next (carryOut .configure configureBody p s)

/-! ## RELEASE -/

/-- Whether any slot in use names an attraction (R29). -/
def State.namesPass (s : State) (a : AttrNo) : Bool :=
  s.slots.toList.any fun x => (x.pass.map fun r => decide (r.attraction = a)).getD false

/-- A port after a RELEASE: its shadow is cleared if it names the attraction (R30, R172). -/
def dropShadow (a : AttrNo) (p : Port) : Port := if p.namesSome (· = a) then { p with shadow := none } else p

/-- RELEASE's effect (R30). -/
def releaseEffect (a : AttrNo) (s : State) : State :=
  let t := s.setAtt a .unused
  raiseAll .attraction ({ t with lines := mapV (unbindFrom a) t.lines }.mapPorts (dropShadow a))

/-- RELEASE (R29, R30). -/
def releaseBody : Body := fun _ args s =>
  match args with
  | [index] =>
    match attrOf index with
    | none => reject .badArgument
    | some a =>
      match (s.att a).state with
      | .unused => reject .noAttraction
      | .operating => reject .rideState
      | .down => reject .rideState
      | .closed => if s.namesPass a then reject .inUse else accept (releaseEffect a s) []
  | _ => reject .badArgument

/-- RELEASE at a port. -/
def execRelease (p : PortNo) (s : State) : Host.Outcome State Fault Refusal :=
  .next (carryOut .release releaseBody p s)

/-! ## SET_STATE -/

/-- An opening ride: T seeded, the age counter loaded, the aged flag cleared (R32). -/
def opening (r : Attraction) : Attraction :=
  { r with state := .operating, throughput := seedThroughput r.desc, ageCounter := r.desc.ageLimit, aged := false }

/-- A recovering ride: the age counter reloaded, the aged flag cleared, T kept (R34). -/
def recovering (r : Attraction) : Attraction :=
  { r with state := .operating, ageCounter := r.desc.ageLimit, aged := false }

/-- A move to OPERATING: the estimator set up, the wait computed and posted at once, the offer computed (R32, R34,
R36). -/
def toOperating (setUp : Attraction → Attraction) (a : AttrNo) (s : State) : State :=
  raiseAll .attraction (recomputeOffer a (s.updAtt a fun r => immediate s.o s.now (setUp r)))

/-- A move from OPERATING to DOWN: the OPEN windows slip, the offer becomes absent (R33, R36, R99). -/
def toDown (a : AttrNo) (s : State) : State :=
  raiseAll .attraction ((changeWindows a slipWindow s).updAtt a fun r => { r with state := .down, offer := none })

/-- A move to CLOSED: the live windows and their ISSUED passes voided, the counts zeroed, the offer absent (R35, R36,
R48, R100). -/
def toClosed (a : AttrNo) (s : State) : State :=
  raiseAll .attraction ((voidWindows a s).updAtt a fun r =>
    { r with state := .closed, q := 0, m := 0, riders := 0, offer := none })

/-- SET_STATE asking for OPERATING, and with a state wanted outside the three (R31, R32, R34). -/
def setStateOperatingBody : Body := fun p args s =>
  match args with
  | [index, wanted] =>
    match attrOf index with
    | none => reject .badArgument
    | some a =>
      if wanted ≠ 2 then reject .badArgument
      else
        match (s.att a).state with
        | .unused => reject .noAttraction
        | .closed =>
          if (s.port p).role = .ride then reject .rideState else accept (toOperating opening a s) [wanted]
        | .operating => accept s [wanted]
        | .down => accept (toOperating recovering a s) [wanted]
  | _ => reject .badArgument

/-- SET_STATE asking for DOWN (R31, R33). -/
def setStateDownBody : Body := fun _ args s =>
  match args with
  | [index, wanted] =>
    match attrOf index with
    | none => reject .badArgument
    | some a =>
      match (s.att a).state with
      | .unused => reject .noAttraction
      | .closed => reject .rideState
      | .operating => accept (toDown a s) [wanted]
      | .down => accept s [wanted]
  | _ => reject .badArgument

/-- SET_STATE asking for CLOSED (R31, R35). -/
def setStateClosedBody : Body := fun _ args s =>
  match args with
  | [index, wanted] =>
    match attrOf index with
    | none => reject .badArgument
    | some a =>
      match (s.att a).state with
      | .unused => reject .noAttraction
      | .closed => accept s [wanted]
      | .operating => accept (toClosed a s) [wanted]
      | .down => accept (toClosed a s) [wanted]
  | _ => reject .badArgument

/-- SET_STATE asking for OPERATING, at a port. -/
def execSetStateOperating (p : PortNo) (s : State) : Host.Outcome State Fault Refusal :=
  .next (carryOut .setStateOperating setStateOperatingBody p s)

/-- SET_STATE asking for DOWN, at a port. -/
def execSetStateDown (p : PortNo) (s : State) : Host.Outcome State Fault Refusal :=
  .next (carryOut .setStateDown setStateDownBody p s)

/-- SET_STATE asking for CLOSED, at a port. -/
def execSetStateClosed (p : PortNo) (s : State) : Host.Outcome State Fault Refusal :=
  .next (carryOut .setStateClosed setStateClosedBody p s)

/-! ## READ_ATTRACTION -/

/-- READ_ATTRACTION (R143, R185). -/
def readAttractionBody : Body := fun _ args s =>
  match args with
  | [index] =>
    match attrOf index with
    | none => reject .badArgument
    | some a =>
      let r := s.att a
      if r.state = .unused then reject .noAttraction
      else
        accept s ([byte r.state.code] ++ descriptorBytes r.desc ++ [byte r.generation] ++ be16 r.q ++ be16 r.m ++
          be16 r.riders ++ be16 r.throughput ++ [byte r.ageCounter])
  | _ => reject .badArgument

/-- READ_ATTRACTION at a port. -/
def execReadAttraction (p : PortNo) (s : State) : Host.Outcome State Fault Refusal :=
  .next (carryOut .readAttraction readAttractionBody p s)

end Sys2Proof.Machine
end

