-- ==== Sys2Proof/Machine/Dispatch.lean ====
section
/-! DEFINITION. One arm per row of spec/opcode_table.json. -/

namespace Sys2Proof.Machine

/-- What a command does to everything but the queue. -/
def exec (i : Instr) (s : State) : Host.Outcome State Fault Refusal :=
  match i with
  | .powerOn straps => Sys2Proof.Machine.execPowerOn straps s
  | .lineReset straps => Sys2Proof.Machine.execLineReset straps s
  | .secondTick => Sys2Proof.Machine.execSecondTick s
  | .minuteTick => Sys2Proof.Machine.execMinuteTick s
  | .agingTick a => Sys2Proof.Machine.execAgingTick a s
  | .retirement a w => Sys2Proof.Machine.execRetirement a w s
  | .qualifiedTransition l levels => Sys2Proof.Machine.execQualifiedTransition l levels s
  | .lineArming l levels => Sys2Proof.Machine.execLineArming l levels s
  | .frameCompletion => Sys2Proof.Machine.execFrameCompletion s
  | .resynchronisingGapEnd => Sys2Proof.Machine.execResynchronisingGapEnd s
  | .pselFall p => Sys2Proof.Machine.execPselFall p s
  | .pselRise p bits => Sys2Proof.Machine.execPselRise p bits s
  | .status p => Sys2Proof.Machine.execStatus p s
  | .ackEvents p => Sys2Proof.Machine.execAckEvents p s
  | .setEvents p => Sys2Proof.Machine.execSetEvents p s
  | .readClock p => Sys2Proof.Machine.execReadClock p s
  | .select p => Sys2Proof.Machine.execSelect p s
  | .readPosting p => Sys2Proof.Machine.execReadPosting p s
  | .readChanged p => Sys2Proof.Machine.execReadChanged p s
  | .readWindows p => Sys2Proof.Machine.execReadWindows p s
  | .readPass p => Sys2Proof.Machine.execReadPass p s
  | .readAttraction p => Sys2Proof.Machine.execReadAttraction p s
  | .setClock p => Sys2Proof.Machine.execSetClock p s
  | .frameOpen p => Sys2Proof.Machine.execFrameOpen p s
  | .frameClose p => Sys2Proof.Machine.execFrameClose p s
  | .clearDay p => Sys2Proof.Machine.execClearDay p s
  | .configure p => Sys2Proof.Machine.execConfigure p s
  | .release p => Sys2Proof.Machine.execRelease p s
  | .setStateOperating p => Sys2Proof.Machine.execSetStateOperating p s
  | .setStateDown p => Sys2Proof.Machine.execSetStateDown p s
  | .setStateClosed p => Sys2Proof.Machine.execSetStateClosed p s
  | .bind p => Sys2Proof.Machine.execBind p s
  | .unbind p => Sys2Proof.Machine.execUnbind p s
  | .inquire p => Sys2Proof.Machine.execInquire p s
  | .boardSet p => Sys2Proof.Machine.execBoardSet p s
  | .boardSetClear p => Sys2Proof.Machine.execBoardSetClear p s
  | .boardOverride p => Sys2Proof.Machine.execBoardOverride p s
  | .entryReport p => Sys2Proof.Machine.execEntryReport p s
  | .dispatchReport p => Sys2Proof.Machine.execDispatchReport p s
  | .queueSet p => Sys2Proof.Machine.execQueueSet p s
  | .issueEarliest p => Sys2Proof.Machine.execIssueEarliest p s
  | .issueAt p => Sys2Proof.Machine.execIssueAt p s
  | .redeem p => Sys2Proof.Machine.execRedeem p s
  | .cancel p => Sys2Proof.Machine.execCancel p s
  | .unknownRequest p => Sys2Proof.Machine.execUnknownRequest p s
  | .millisecondSample levels => Sys2Proof.Machine.execMillisecondSample levels s

end Sys2Proof.Machine
end

