-- ==== Sys2Proof/Safety.lean ====
section
/-! DEFINITION. The terms in which statements are made: parts of the state and frames, requests in hand and their
replies, what an event publishes, and the invariants of the part. -/

namespace Sys2Proof.Machine

/-! ## Frames -/

/-- The parts of the state. -/
inductive Part where
  | clock | frame | attractions | passes | postings | lines | entries | dirty | refresh | board | ports | choice
  | pending
  deriving DecidableEq, Repr

/-- A part is the same in two states. -/
def Part.same : Part → State → State → Prop
  | .clock, s, t => t.clock = s.clock ∧ t.clockSet = s.clockSet ∧ t.pendingClock = s.pendingClock
  | .frame, s, t => t.day = s.day ∧ t.openMinute = s.openMinute ∧ t.closeMinute = s.closeMinute
  | .attractions, s, t => t.attractions = s.attractions
  | .passes, s, t => t.slots = s.slots ∧ t.freeQueue = s.freeQueue
  | .postings, s, t => t.postings = s.postings
  | .lines, s, t => t.lines = s.lines
  | .entries, s, t => t.entries = s.entries
  | .dirty, s, t => t.dirty = s.dirty
  | .refresh, s, t => t.refresh = s.refresh
  | .board, s, t => t.board = s.board
  | .ports, s, t => t.ports = s.ports
  | .choice, s, t => t.choice = s.choice
  | .pending, s, t => t.pending = s.pending

/-- Everything but the named parts is the same after an event. -/
def KeepsBut (touched : List Part) (s t : State) : Prop := ∀ x : Part, x ∉ touched → x.same s t

/-- Every attraction but one is the same after an event. -/
def OthersKept (a : AttrNo) (s t : State) : Prop := ∀ b : AttrNo, b ≠ a → t.att b = s.att b

/-! ## Requests and replies -/

/-- A port holds a taken request of a kind, in a frame that passes its check, with these arguments (R165). -/
def Sent (s : State) (p : PortNo) (kind : Byte) (args : List Byte) : Prop :=
  ∃ request, (s.port p).link = .working request ∧ request.head? = some kind ∧ openFrame request = some args

/-- The command carries out the port's request as a refusal: the reply is ready and nothing else has changed (R167). -/
def Refuses (i : Instr) (s : State) (p : PortNo) (kind : Byte) (code : ResultCode) : Prop :=
  exec i s = .next (s.withReply p (replyFrame kind code.value []))

/-- The command carries out the port's request: it leaves state t, with a DONE reply of the given data ready (R166). -/
def Grants (i : Instr) (s : State) (p : PortNo) (kind : Byte) (t : State) (data : List Byte) : Prop :=
  exec i s = .next (t.withReply p (replyFrame kind ResultCode.done.value data))

/-- A port is as it was, its link and its event flags and change set apart. -/
structure Port.LikeBefore (q r : Port) : Prop where
  role : r.role = q.role
  period : r.period = q.period
  shadow : r.shadow = q.shadow
  enable : r.enable = q.enable
  level : r.level = q.level

/-- A port is READY with a DONE reply, every other link is as it was, and so is every port's role, period, shadow and
masks. -/
structure Answers (s t : State) (p : PortNo) (kind : Byte) (data : List Byte) : Prop where
  reply : (t.port p).link = .ready (replyFrame kind ResultCode.done.value data)
  others : ∀ q, q ≠ p → (t.port q).link = (s.port q).link
  ports : ∀ q, (s.port q).LikeBefore (t.port q)

/-- No link, role, period, shadow or mask of a port is moved by an event. -/
def PortsQuiet (s t : State) : Prop := ∀ q, (t.port q).link = (s.port q).link ∧ (s.port q).LikeBefore (t.port q)

/-! ## Events -/

/-- Whether a kind is edge-type (R176). -/
def EventKind.edge : EventKind → Bool
  | .frame => true
  | .attraction => true
  | .stale => false
  | .aged => false
  | .window => true
  | .posting => false
  | .scan => true
  | .clock => true

/-- Whether a port's flag of a kind is set. -/
def Port.has (q : Port) (k : EventKind) : Bool := k.inMask q.flags

/-- An event raises exactly the given edge-type kinds: every other edge-type flag is as it was (R176). -/
def Raises (s t : State) (raised : PortNo → EventKind → Bool) : Prop :=
  ∀ q k, k.edge = true → (t.port q).has k = ((s.port q).has k || raised q k)

/-- Whether a port's shadow names an attraction (R102). -/
def State.watches (s : State) (q : PortNo) (a : AttrNo) : Bool := (s.port q).namesSome (· = a)

/-! ## Postings and level-type flags -/

/-- The postings stand as their sources do, and every level-type flag as its condition does (R133, R177). -/
structure Settled (s : State) : Prop where
  postings : ∀ a : AttrNo, s.postings[a] = postingOf (s.att a)
  stale : ∀ q, (s.port q).has .stale = staleAt s (s.port q)
  aged : ∀ q, (s.port q).has .aged = anyAged s
  posting : ∀ q, (s.port q).has .posting = nonEmpty (s.port q).changed

/-- Whether a posting is another after an event. -/
def postingMoved (s t : State) (a : AttrNo) : Bool := decide (t.postings[a] ≠ s.postings[a])

/-- The postings that moved over a whole tick have joined every change set and marked the valid entries that name them, which
only an OPERATING attraction's can, and no index and no entry has left its set (R136, R137, R150). -/
structure TickPublishes (s t : State) : Prop where
  settled : Settled t
  joins : ∀ q (a : AttrNo), (s.port q).changed[a] = true ∨ postingMoved s t a = true → (t.port q).changed[a] = true
  onlyOperating : ∀ q (a : AttrNo), (t.port q).changed[a] = true →
    (s.port q).changed[a] = true ∨ (s.att a).state = .operating
  marks : ∀ (e : EntryNo) b, s.entries[e].binding = some b → postingMoved s t b.attraction = true → t.dirty[e] = true
  stays : ∀ e : EntryNo, s.dirty[e] = true → t.dirty[e] = true
  onlyNaming : ∀ e : EntryNo, t.dirty[e] = true → s.dirty[e] = true ∨
    ∃ b, s.entries[e].binding = some b ∧ (s.att b.attraction).state = .operating

/-- What an event publishes: it leaves the part settled, each moved posting joins every change set, and each valid entry
that names one joins the dirty set (R134, R136, R150, R177). -/
structure Publishes (s t : State) : Prop where
  settled : Settled t
  changed : ∀ q (a : AttrNo), (t.port q).changed[a] = ((s.port q).changed[a] || postingMoved s t a)
  dirty : ∀ e : EntryNo, t.dirty[e] =
    (s.dirty[e] || match s.entries[e].binding with
      | some b => postingMoved s t b.attraction
      | none => false)

/-- No edge-type kind at any port. -/
def nothing : PortNo → EventKind → Bool := fun _ _ => false

/-- One kind at every port. -/
def everywhere (k : EventKind) : PortNo → EventKind → Bool := fun _ j => decide (j = k)

/-- The WINDOW event at the ports whose shadow names an attraction, where a condition holds (R102). -/
def windowAt (s : State) (a : AttrNo) (b : Bool) : PortNo → EventKind → Bool :=
  fun q j => decide (j = .window) && b && s.watches q a

/-- The WINDOW event at the ports whose shadow names an attraction of which a condition holds (R102). -/
def windowWhere (s : State) (hit : AttrNo → Bool) : PortNo → EventKind → Bool :=
  fun q j => decide (j = .window) && (s.port q).namesSome hit

/-- Two sets of events together. -/
def both (x y : PortNo → EventKind → Bool) : PortNo → EventKind → Bool := fun q j => x q j || y q j

/-- The command carries out the port's request: a DONE reply of the given data is ready, exactly the given edge-type
events are raised, the postings and what follows from them are published, and outside the attractions, the postings, the
dirty set, the ports and the named parts nothing has changed; of the new state a further effect holds. -/
def Carries (i : Instr) (s : State) (p : PortNo) (kind : Byte) (data : List Byte) (touched : List Part)
    (raised : PortNo → EventKind → Bool) (effect : State → Prop) : Prop :=
  ∃ t, exec i s = .next t ∧ Answers s t p kind data ∧ Publishes s t ∧ Raises s t raised ∧
    KeepsBut ([.attractions, .postings, .dirty, .ports] ++ touched) s t ∧ effect t

/-! ## Choices and tables of the rules -/

/-- A number is d divided by 2^k, rounded to the nearest whole number with an exact half away from zero (R67). -/
def Rounds (d : Int) (k : Nat) (adj : Int) : Prop :=
  2 * (2 ^ k * adj - d).natAbs ≤ 2 ^ k ∧ (2 * (2 ^ k * adj - d).natAbs = 2 ^ k → d.natAbs < 2 ^ k * adj.natAbs)

/-- Whether a kind is HIGH at a port (R179). -/
def Port.high (q : Port) (k : EventKind) : Bool := k.inMask q.level

/-- A number is a port's leading event (R180). -/
def Port.Leads (q : Port) (n : Nat) : Prop :=
  (n = 0 ∧ ∀ k, q.has k = false) ∨
    ∃ k, n = k.number ∧ q.has k = true ∧
      ((q.high k = true ∧ ∀ j, q.has j = true → q.high j = true → k.number ≤ j.number) ∨
        ((∀ j, q.has j = true → q.high j = false) ∧ ∀ j, q.has j = true → k.number ≤ j.number))

/-- A window has the state and ended-at minute of the table of R90, for a list built by time. -/
def SetByTime (now o z : Nat) (d : Descriptor) (down : Bool) (w : Nat) (x : Window) : Prop :=
  let start := o + w * d.length
  let closing := min (start + d.length + d.lateGrace) z
  if now + d.earlyGrace < start then x.state = .future ∧ x.endedAt = none
  else if down then x.state = .slipped ∧ x.endedAt = none
  else if now < closing then x.state = .opened ∧ x.endedAt = none
  else if now < closing + 30 then x.state = .closed ∧ x.endedAt = some closing
  else x.state = .spent ∧ x.endedAt = some closing

/-- A window is due to retire at minute m (R97). -/
def Window.due (m o : Nat) (x : Window) : Bool :=
  (x.state = .closed || x.state = .void) && decide (max (x.endedAt.getD 0) o + 30 ≤ m)

/-- The slots that an attraction's retirements at minute m free, window by window in ascending index and within each in
ascending slot number (R98, R114, R128). -/
def State.retiring (s : State) (m o : Nat) (a : AttrNo) : List SlotNo :=
  ((List.range (s.att a).list.length).filter fun w =>
      match (s.att a).window w with
      | some x => x.due m o
      | none => false).flatMap fun w =>
    (List.finRange Config.slots).filter fun i =>
      match s.slots[i].pass with
      | some r => r.names a w
      | none => false

/-- Window w of an attraction before and after the Book's work at minute m (R95 to R98). -/
structure MovedAt (m o z : Nat) (r : Attraction) (w : Nat) (x y : Window) : Prop where
  early : x.state = .future → m + r.desc.earlyGrace < o + w * r.desc.length → y = x
  slips : x.state = .future → o + w * r.desc.length ≤ m + r.desc.earlyGrace → r.state = .down →
    y = { x with state := .slipped }
  opens : x.state = .future → o + w * r.desc.length ≤ m + r.desc.earlyGrace → r.state ≠ .down →
    m < min (o + w * r.desc.length + r.desc.length + r.desc.lateGrace) z → y = { x with state := .opened }
  passes : x.state = .future → o + w * r.desc.length ≤ m + r.desc.earlyGrace → r.state ≠ .down →
    min (o + w * r.desc.length + r.desc.length + r.desc.lateGrace) z ≤ m →
    y = { x with state := .closed, endedAt := some m }
  stays : x.state = .opened → m < min (o + w * r.desc.length + r.desc.length + r.desc.lateGrace) z → y = x
  closes : x.state = .opened → min (o + w * r.desc.length + r.desc.length + r.desc.lateGrace) z ≤ m →
    y = { x with state := .closed, endedAt := some m }
  rests : x.state = .slipped ∨ x.state = .spent → y = x
  keeps : x.state = .closed ∨ x.state = .void → m < max (x.endedAt.getD 0) o + 30 → y = x
  retires : x.state = .closed ∨ x.state = .void → max (x.endedAt.getD 0) o + 30 ≤ m → y = { x with state := .spent }

/-- A window list as a build makes it: as long as R86 gives, every window with the quota of R87 and nothing booked, FUTURE
or, in an open frame, set by time (R89, R90). -/
structure Built (opens : Bool) (now o z : Nat) (d : Descriptor) (down : Bool) (ws : List Window) : Prop where
  length : ws.length = min 64 ((z - o) / d.length)
  fresh : ∀ x ∈ ws, x.quota = d.rate * d.share * d.length / 6000 ∧ x.booked = 0 ∧ x.arrived = 0
  future : opens = false → ∀ x ∈ ws, x.state = .future ∧ x.endedAt = none
  byTime : opens = true → ∀ w x, ws[w]? = some x → SetByTime now o z d down w x

/-- A window that an ISSUE for a party of n may choose in mode EARLIEST (R105). -/
def Bookable (o now : Nat) (r : Attraction) (n w : Nat) : Prop :=
  ∃ x, r.window w = some x ∧ (x.state = .future ∨ x.state = .opened) ∧
    now + max r.posted r.desc.minLead ≤ o + w * r.desc.length ∧ x.booked + n ≤ x.quota

/-- A dispatch of r riders turns one record into another: the split of R44, and the age counter reloaded with the aged flag
cleared (R44, R45). -/
def Dispatched (r : Nat) (x y : Attraction) : Prop :=
  ∃ merge standby : Nat, merge = min x.m (r * x.desc.mergeShare / 100) ∧ standby + merge = r ∧
    y = { x with
      q := if standby ≤ x.q then x.q - standby else 0
      m := if standby ≤ x.q then x.m - merge else x.m - merge - (standby - x.q)
      riders := min 4095 (x.riders + r)
      ageCounter := x.desc.ageLimit
      aged := false }

/-- An edge counts a qualified transition to a level (R52). -/
def CountingEdge (e : Edge) (level : Bool) : Prop :=
  match e with
  | .rising => level = true
  | .falling => level = false
  | .both => True

/-- A sample at a level completes the qualification of a count on a line (R53, R57). -/
def BringsCount (x : Line) (level : Bool) : Prop :=
  ∃ b settled candidate, x = .armed b settled candidate ∧ level ≠ settled ∧ b.qualify ≤ candidate.getD 0 + 1 ∧
    CountingEdge b.edge level

/-- The frame an entry sends: its address, and the kind and fields of R149 from its override code, its content and its
attraction's posting. -/
structure Sends (b : SignBinding) (code : Nat) (x : Posting) (f : SignFrame) : Prop where
  address : f.address = b.address
  carried : f.override = code
  under : code ≠ 0 → f.kind = .override ∧ f.high = 0 ∧ f.low = 0 ∧ f.overFlag = false ∧ f.aged = false
  plain : code = 0 → x.marker ≠ .operating →
    f.high = 0 ∧ f.low = 0 ∧ f.overFlag = false ∧ f.aged = false ∧
      f.kind = (match x.marker with | .down => .down | .closed => .closed | _ => .blank)
  wait : code = 0 → x.marker = .operating → b.content = .wait → ∀ y, x.shown = some y →
    f.kind = .wait ∧ 256 * f.high + f.low = y.posted ∧ f.low < 256 ∧ f.overFlag = y.overFlag ∧ f.aged = y.aged
  ret : code = 0 → x.marker = .operating → b.content = .ret → ∀ y, x.shown = some y →
    f.overFlag = false ∧ f.aged = false ∧
      match y.nextReturn with
      | some m => f.kind = .ret ∧ 60 * f.high + f.low = m ∧ f.low < 60
      | none => f.kind = .none ∧ f.high = 0 ∧ f.low = 0

/-- An entry is the next in refresh order: the first valid one from the refresh pointer up, and then from 0 (R153). -/
def NextInOrder (s : State) (e : EntryNo) : Prop :=
  s.valid e = true ∧
    ((s.refresh ≤ e ∧ ∀ x, s.refresh ≤ x → x < e → s.valid x = false) ∨
      (e < s.refresh ∧ (∀ x, s.refresh ≤ x → s.valid x = false) ∧ ∀ x, x < e → s.valid x = false))

/-- A frame start: with no valid entry the line goes IDLE; else the lowest dirty entry is sent and leaves the dirty set, or
with none dirty the next in refresh order, which moves the pointer behind it and ends a pass where no valid entry lies above
it (R152, R153, R154). -/
structure FrameStart (s t : State) : Prop where
  idle : (∀ e, s.valid e = false) → t.board = .idle ∧ t.dirty = s.dirty ∧ t.refresh = s.refresh
  dirty : ∀ (e : EntryNo) b, s.dirty[e] = true → s.entries[e].binding = some b → (∀ x : EntryNo, x < e → s.dirty[x] = false) →
    t.refresh = s.refresh ∧ (∀ x : EntryNo, t.dirty[x] = (s.dirty[x] && decide (x ≠ e))) ∧
      ∃ f, t.board = .sending f false ∧ Sends b s.entries[e].override s.postings[b.attraction] f
  refresh : ∀ (e : EntryNo) b, (∀ x : EntryNo, s.dirty[x] = false) → NextInOrder s e → s.entries[e].binding = some b →
    t.refresh.val = (e.val + 1) % 64 ∧ (∀ x : EntryNo, t.dirty[x] = false) ∧
      ∃ f, t.board = .sending f (decide (∀ x, e < x → s.valid x = false)) ∧
        Sends b s.entries[e].override s.postings[b.attraction] f

/-- A confirmed pair: O and Z present, the frame OPEN where now has reached O and ARMED otherwise, a list built for every
attraction in use, every offer computed (R9, R89, R90, R109). -/
structure Confirmed (s t : State) (o z : Nat) : Prop where
  day : t.day = if o ≤ s.now then .opened else .armed
  open_ : t.openMinute = some o
  close : t.closeMinute = some z
  records : ∀ a, t.att a = { s.att a with windows := (t.att a).windows, offer := (t.att a).offer }
  built : ∀ a, (s.att a).state ≠ .unused → ∃ ws, (t.att a).windows = some ws ∧
    Built (decide (o ≤ s.now)) s.now o z (s.att a).desc (decide ((s.att a).state = .down)) ws
  unused : ∀ a, (s.att a).state = .unused → (t.att a).windows = (s.att a).windows
  offers : ∀ a, (t.att a).offer = offerNow t (t.att a)

/-- An emptied book: no list and no offer, every record as it was otherwise (R11). -/
def Emptied (s t : State) : Prop := ∀ a, t.att a = { s.att a with windows := none, offer := none }

/-- A pass written by an ISSUE: the slot at the head of the free queue is taken with the next generation and holds the record,
B of the chosen window rises by the party, and the offer is recomputed (R113, R120). -/
structure Issued (s t : State) (p : PortNo) (a : AttrNo) (w n : Nat) (i : SlotNo) (rest : List SlotNo) : Prop where
  queue : t.freeQueue = rest
  slot : t.slots[i] = ⟨(s.slots[i].generation + 1) % 16, some ⟨a, w, n, .issued, s.now, p, none⟩⟩
  slots : ∀ j : SlotNo, j ≠ i → t.slots[j] = s.slots[j]
  others : OthersKept a s t
  record : t.att a =
    { s.att a with
      windows := (s.att a).windows.map (·.modify w fun x => { x with booked := x.booked + n })
      offer := (t.att a).offer }
  offer : (t.att a).offer = offerNow t (t.att a)

/-- The command that carries out a request of a row. -/
def Row.command (row : Row) (p : PortNo) : Instr :=
  match row with
  | .status => .status p
  | .ackEvents => .ackEvents p
  | .setEvents => .setEvents p
  | .readClock => .readClock p
  | .select => .select p
  | .readPosting => .readPosting p
  | .readChanged => .readChanged p
  | .readWindows => .readWindows p
  | .readPass => .readPass p
  | .readAttraction => .readAttraction p
  | .setClock => .setClock p
  | .frameOpen => .frameOpen p
  | .frameClose => .frameClose p
  | .clearDay => .clearDay p
  | .configure => .configure p
  | .release => .release p
  | .setStateOperating => .setStateOperating p
  | .setStateDown => .setStateDown p
  | .setStateClosed => .setStateClosed p
  | .bind => .bind p
  | .unbind => .unbind p
  | .inquire => .inquire p
  | .boardSet => .boardSet p
  | .boardSetClear => .boardSetClear p
  | .boardOverride => .boardOverride p
  | .entryReport => .entryReport p
  | .dispatchReport => .dispatchReport p
  | .queueSet => .queueSet p
  | .issueEarliest => .issueEarliest p
  | .issueAt => .issueAt p
  | .redeem => .redeem p
  | .cancel => .cancel p
  | .unknownRequest => .unknownRequest p

/-- The argument length of a kind (R185); 0 for a kind that is not known. -/
def argumentLength (kind : Byte) : Nat :=
  match kind.toNat with
  | 0x02 => 1
  | 0x03 => 2
  | 0x05 => 1
  | 0x06 => 1
  | 0x08 => 2
  | 0x09 => 2
  | 0x0A => 1
  | 0x10 => 3
  | 0x11 => 2
  | 0x12 => 2
  | 0x14 => 19
  | 0x15 => 1
  | 0x16 => 2
  | 0x17 => 6
  | 0x18 => 5
  | 0x19 => 2
  | 0x20 => 2
  | 0x21 => 2
  | 0x22 => 3
  | 0x30 => 3
  | 0x31 => 2
  | 0x32 => 2
  | _ => 0

/-- The kinds the part knows (section 11.2). -/
def knownKinds : List Byte :=
  [0x01, 0x02, 0x03, 0x04, 0x05, 0x06, 0x07, 0x08, 0x09, 0x0A, 0x10, 0x11, 0x12, 0x13, 0x14, 0x15, 0x16, 0x17, 0x18, 0x19,
    0x20, 0x21, 0x22, 0x30, 0x31, 0x32]

/-- The table of R168: whether a role may send a kind with these arguments; a RIDE port may send SET_STATE with any state
wanted but CLOSED. -/
def maySend (role : Role) (kind : Byte) (args : List Byte) : Bool :=
  if kind ∈ ([0x01, 0x02, 0x03, 0x04, 0x05, 0x06, 0x07, 0x08, 0x09, 0x0A] : List Byte) then true
  else if kind ∈ ([0x10, 0x11, 0x12, 0x13, 0x14, 0x15, 0x17, 0x18, 0x19] : List Byte) then role = .ops
  else if kind = 0x16 then role = .ops || (role = .ride && args[1]? != some 1)
  else if kind = 0x22 then role = .ops || role = .ride
  else if kind = 0x20 ∨ kind = 0x21 then role = .ride
  else role = .issue

/-! ## Invariants -/

/-- The counts lie in their ranges, and are 0 for an attraction that is CLOSED or UNUSED (R40, R48). -/
structure CountsLaw (s : State) : Prop where
  q : ∀ a, (s.att a).q ≤ 65535
  m : ∀ a, (s.att a).m ≤ 65535
  riders : ∀ a, (s.att a).riders ≤ 4095
  zero : ∀ a, (s.att a).state = .closed ∨ (s.att a).state = .unused →
    (s.att a).q = 0 ∧ (s.att a).m = 0 ∧ (s.att a).riders = 0

/-- Every attraction in use has a descriptor in range whose combinations are allowed, and an UNUSED record holds zeros
(R20, R21, R19, R30, R63). -/
structure RecordsLaw (s : State) : Prop where
  used : ∀ a, (s.att a).state ≠ .unused → (s.att a).desc.inRange = true ∧ (s.att a).desc.combines = true
  unused : ∀ a, (s.att a).state = .unused → s.att a = .unused

/-- The posted minutes of an OPERATING attraction lie within 0..its max posted and are a multiple of its step (R81). -/
def PostedLaw (s : State) : Prop :=
  ∀ a, (s.att a).state = .operating →
    (s.att a).posted ≤ (s.att a).desc.maxPosted ∧ (s.att a).desc.step ∣ (s.att a).posted

/-- The age counter lies within the age limit; AGED goes with a counter of 0, and an OPERATING attraction that is not
AGED has at least 1 left (R62, R70). -/
structure AgeLaw (s : State) : Prop where
  limit : ∀ a, (s.att a).ageCounter ≤ (s.att a).desc.ageLimit
  aged : ∀ a, (s.att a).aged = true → (s.att a).ageCounter = 0
  fresh : ∀ a, (s.att a).state = .operating → (s.att a).aged = false → 1 ≤ (s.att a).ageCounter

/-- The free queue holds no number twice and holds exactly the numbers of the slots not in use (R112). -/
structure QueueLaw (s : State) : Prop where
  once : s.freeQueue.Nodup
  free : ∀ i : SlotNo, i ∈ s.freeQueue ↔ s.slots[i].pass = none

/-- Whenever the frame is not OPEN, the pass table holds no pass (R116). -/
def TableLaw (s : State) : Prop := s.day ≠ .opened → ∀ i : SlotNo, s.slots[i].pass = none

/-- Only valid entries are members of the dirty set, and an IDLE line has no valid entry (R150, R152). -/
structure BoardLaw (s : State) : Prop where
  dirty : ∀ e : EntryNo, s.dirty[e] = true → s.valid e = true
  idle : s.board = .idle → s.anyValid = false

/-- A port not strapped OPS has its SCAN flag clear (R176). -/
def ScanLaw (s : State) : Prop := ∀ q, (s.port q).role ≠ .ops → (s.port q).has .scan = false

/-- The running clock and a pending value lie in their ranges (section 1.1). -/
def Time.Valid (t : Time) : Prop := t.hours ≤ 23 ∧ t.minutes ≤ 59 ∧ t.seconds ≤ 59

/-- O and Z are present as the frame state says, and the clock and a pending value are valid readings (section 1.4). -/
structure FrameLaw (s : State) : Prop where
  clock : s.clock.Valid
  waiting : ∀ v, s.pendingClock = some v → v.Valid
  unset : s.day = .unset → s.openMinute = none ∧ s.closeMinute = none
  half : s.day = .half → (s.openMinute.isSome ≠ s.closeMinute.isSome)
  range : ∀ m, s.openMinute = some m ∨ s.closeMinute = some m → m ≤ 1439
  both : s.day = .armed ∨ s.day = .opened ∨ s.day = .ended → ∃ o z, s.openMinute = some o ∧ s.closeMinute = some z ∧
    o + Config.leastFrame ≤ z

/-- A list exists for an attraction exactly where it is in use in an ARMED or OPEN frame, and never in UNSET or HALF; it
is as long as the frame and the window length give (R86). -/
structure ListsLaw (s : State) : Prop where
  armed : s.day = .armed ∨ s.day = .opened → ∀ a, (s.att a).windows.isSome = (s.att a).inUse
  empty : s.day = .unset ∨ s.day = .half → ∀ a, (s.att a).windows = none
  unused : ∀ a, (s.att a).state = .unused → (s.att a).windows = none
  length : s.day = .armed ∨ s.day = .opened → ∀ a ws, (s.att a).windows = some ws →
    ws.length = windowCount s.o s.z (s.att a).desc

/-- The window states a pass of each state may name (R115). -/
def PassState.fits : PassState → WindowState → Bool
  | .issued, w => w = .future || w = .opened || w = .slipped
  | .redeemed, w => w = .opened || w = .slipped || w = .closed || w = .void
  | .expired, w => w = .closed
  | .voided, w => w = .void

/-- In every window A is at most B, and an ended-at minute is present exactly in CLOSED, VOID and SPENT (R87, R103). -/
structure WindowsLaw (s : State) : Prop where
  arrived : ∀ a w x, (s.att a).window w = some x → x.arrived ≤ x.booked
  ended : ∀ a w x, (s.att a).window w = some x →
    (x.endedAt.isSome = true ↔ x.state = .closed ∨ x.state = .void ∨ x.state = .spent)

/-- Every pass names a window of an attraction in use, in a state its own state allows, with a party of 1 to 8 and a
redeemed-at minute exactly where it is REDEEMED (R110, R115). -/
def PassesLaw (s : State) : Prop :=
  ∀ (i : SlotNo) r, s.slots[i].pass = some r →
    (1 ≤ r.party ∧ r.party ≤ 8) ∧ r.redeemedAt.isSome = (r.state = .redeemed) ∧
      ∃ w, (s.att r.attraction).window r.window = some w ∧ r.state.fits w.state = true

/-- The party sizes of the passes of given states that name a window. -/
def State.parties (s : State) (a : AttrNo) (w : Nat) (which : PassState → Bool) : Nat :=
  (s.slots.toList.map fun x =>
    match x.pass with
    | some r => if r.names a w && which r.state then r.party else 0
    | none => 0).sum

/-- For every live window, B is the sum of the parties of its ISSUED and REDEEMED passes, and A of its REDEEMED ones
(R103). -/
def BookingLaw (s : State) : Prop :=
  ∀ a w x, (s.att a).window w = some x → x.live = true →
    x.booked = s.parties a w (fun st => st = .issued || st = .redeemed) ∧ x.arrived = s.parties a w (· = .redeemed)

/-- The book and the pass table agree: the laws of the lists, the windows, the free queue, the table, the passes and the
bookings together. -/
structure BookSound (s : State) : Prop where
  lists : ListsLaw s
  windows : WindowsLaw s
  queue : QueueLaw s
  table : TableLaw s
  passes : PassesLaw s
  bookings : BookingLaw s

end Sys2Proof.Machine
end

