-- ==== Sys2Proof/Certificates/Slice0/Obligations.lean ====
section
/-! DEFINITION. The statements for the provers. -/

open Sys2Proof Sys2Proof.Machine

/-! ## The queue of commands -/

/-- One step takes the command at the front of the queue and runs it with the queue's rest; an empty queue leaves the state as
it is (log 2: the model's choice). -/
def Obligations.StepTakesTheFrontCommand : Prop :=
  (∀ (c : Instr) (rest : List Instr) (s : State), step { s with pending := c :: rest } = exec c { s with pending := rest }) ∧
    ∀ s : State, s.pending = [] → step s = .next s

/-- Every command answers a next state, and none touches the queue of waiting commands. -/
def Obligations.EveryCommandAnswersNext : Prop :=
  ∀ (c : Instr) (s : State), ∃ t, exec c s = .next t ∧ t.pending = s.pending

/-! ## The resets -/

/-- POWER_ON: every piece of the part's state at its power-on value (R3, R8, R19, R41, R52, R63, R88, R110, R112, R133, R137,
R145, R150, R152, R153, R159, R174); the model's queue and choice count stay (log 22: the model's choice). -/
def Obligations.PowerOn : Prop :=
  ∀ (straps : Straps) (s : State), ∃ t, exec (.powerOn straps) s = .next t ∧
    (t.clock = ⟨0, 0, 0⟩ ∧ t.clockSet = false ∧ t.pendingClock = none) ∧
    (t.day = .unset ∧ t.openMinute = none ∧ t.closeMinute = none) ∧
    (∀ a, (t.att a).state = .unused ∧ (t.att a).generation = 0 ∧ (t.att a).desc = .zero ∧ (t.att a).q = 0 ∧
      (t.att a).m = 0 ∧ (t.att a).riders = 0 ∧ (t.att a).throughput = 0 ∧ (t.att a).ageCounter = 0 ∧
      (t.att a).aged = false ∧ (t.att a).target = 0 ∧ (t.att a).targetOver = false ∧ (t.att a).posted = 0 ∧
      (t.att a).windows = none ∧ (t.att a).offer = none) ∧
    (∀ i : SlotNo, t.slots[i] = ⟨0, none⟩) ∧
    (t.freeQueue.map Fin.val = List.range 4096) ∧
    (∀ a : AttrNo, t.postings[a] = ⟨.unused, none⟩) ∧
    (∀ l : LineNo, t.lines[l] = .unbound) ∧
    (∀ e : EntryNo, t.entries[e] = ⟨none, 0⟩ ∧ t.dirty[e] = false) ∧
    (t.refresh = 0 ∧ t.board = .idle) ∧
    (∀ p, (t.port p).role =
        (if straps[p].pr1 then (if straps[p].pr0 then .ops else .ride) else (if straps[p].pr0 then .issue else .view)) ∧
      (t.port p).link = .idle ∧ (t.port p).period = none ∧ (t.port p).shadow = none ∧ (t.port p).flags = 0 ∧
      (t.port p).enable = 0 ∧ (t.port p).level = 0 ∧ ∀ a : AttrNo, (t.port p).changed[a] = false) ∧
    t.choice = s.choice ∧ t.pending = s.pending

/-- LINE_RESET: the clock, the frame, the attractions, the passes, the postings and the board list are kept; a pending clock
value is dropped, bound lines wait to arm again, every valid entry is dirty, the board line is resynchronising with BOARD_TX
at the high level, and every port starts afresh with PDO at high impedance, a refilled change set and only those flags set
that R182 gives. -/
def Obligations.LineReset : Prop :=
  ∀ (straps : Straps) (s : State), Settled s → ∃ t, exec (.lineReset straps) s = .next t ∧
    KeepsBut [.clock, .lines, .dirty, .refresh, .board, .ports] s t ∧
    (t.clock = s.clock ∧ t.clockSet = s.clockSet ∧ t.pendingClock = none) ∧
    (∀ l : LineNo, t.lines[l] =
      match s.lines[l] with
      | .unbound => .unbound
      | .unarmed b _ _ => .unarmed b 0 false
      | .armed b _ _ => .unarmed b 0 false) ∧
    (∀ e : EntryNo, t.dirty[e] = s.entries[e].binding.isSome) ∧
    (t.refresh = 0 ∧ t.board = .resynchronising ∧ ∀ n, t.boardTx n = true) ∧
    (∀ p, (t.port p).role =
        (if straps[p].pr1 then (if straps[p].pr0 then .ops else .ride) else (if straps[p].pr0 then .issue else .view)) ∧
      (t.port p).link = .idle ∧ (t.port p).period = none ∧ (∀ n, t.pdo p n = none) ∧ (t.port p).shadow = none ∧
      (t.port p).enable = 0 ∧ (t.port p).level = 0 ∧
      (∀ a : AttrNo, (t.port p).changed[a] = decide ((s.att a).state ≠ .unused)) ∧
      ∀ k, (t.port p).has k = true ↔
        (k = .aged ∧ ∃ a, (s.att a).state = .operating ∧ (s.att a).aged = true) ∨
          (k = .posting ∧ ∃ a, (s.att a).state ≠ .unused))

/-! ## The second tick -/

/-- SECOND_TICK. With no pending value the counters advance as R1 gives, with no CLOCK event, and where the minute stays
nothing else moves. With a pending value, one that in OPEN or ENDED is earlier than the reading, or more than 3600 seconds
later, is dropped and the clock advances with no CLOCK event; any other is loaded, the clock-set flag is set and CLOCK is
raised at every port; and where the minute stays nothing else moves, at any port or in any other part (R1, R5). -/
def Obligations.SecondTick : Prop :=
  (∀ s : State, Settled s → s.clock.Valid → s.pendingClock = none → ∃ t, exec .secondTick s = .next t ∧
    t.clock =
      (if s.clock.seconds < 59 then ⟨s.clock.hours, s.clock.minutes, s.clock.seconds + 1⟩
      else if s.clock.minutes < 59 then ⟨s.clock.hours, s.clock.minutes + 1, 0⟩
      else if s.clock.hours < 23 then ⟨s.clock.hours + 1, 0, 0⟩
      else ⟨0, 0, 0⟩) ∧
    t.clockSet = s.clockSet ∧ t.pendingClock = none ∧ (∀ q, (t.port q).has .clock = (s.port q).has .clock) ∧
    (s.clock.seconds < 59 → t = { s with clock := ⟨s.clock.hours, s.clock.minutes, s.clock.seconds + 1⟩ })) ∧
  ∀ (s : State) (v : Time), Settled s → s.pendingClock = some v → ∃ t, exec .secondTick s = .next t ∧
    t.pendingClock = none ∧
    (t.clock.minute = s.clock.minute → KeepsBut [.clock, .ports] s t ∧ PortsQuiet s t) ∧
    ((s.day = .opened ∨ s.day = .ended) ∧
        (v.second < s.clock.second ∨ s.clock.second + 3600 < v.second) →
      t.clock = s.clock.advance ∧ t.clockSet = s.clockSet ∧ (∀ q, (t.port q).has .clock = (s.port q).has .clock) ∧
      (t.clock.minute = s.clock.minute → t = { s with clock := s.clock.advance, pendingClock := none })) ∧
    (¬ ((s.day = .opened ∨ s.day = .ended) ∧
        (v.second < s.clock.second ∨ s.clock.second + 3600 < v.second)) →
      t.clock = v ∧ t.clockSet = true ∧ (∀ q, (t.port q).has .clock = true) ∧
      (t.clock.minute = s.clock.minute →
        t = { s with clock := v, clockSet := true, pendingClock := none }.mapPorts (Port.raise .clock)))

/-! ## The minute tick -/

/-- MINUTE_TICK, the Estimator's part that no order of works can move: the throughput, R_min, the age counter and the aged
flag of every attraction by its state (R64, R65, R67, R70), with everything else the Estimator and the Counting Unit hold, the
descriptor and the state kept; the target and the over flag as computed on the windows as they stood before the tick or as
they stand after it (R75), and the posted minutes of R79; and each posting that moved in every change set and its valid
entries dirty (R136, R150); ATTRACTION and SCAN stay as they were at every port (R176). -/
def Obligations.MinuteTickEstimates : Prop :=
  ∀ s : State, s.minuteDue = true → ∃ t, exec .minuteTick s = .next t ∧ exec .secondTick s = .next t ∧
    t.clock = s.nextReading ∧
    KeepsBut [.clock, .frame, .attractions, .passes, .postings, .dirty, .ports, .choice] s t ∧ PortsQuiet s t ∧
    (Settled s → TickPublishes s t) ∧
    (∀ q k, k = .attraction ∨ k = .scan → (t.port q).has k = (s.port q).has k) ∧
    ∀ a, (t.att a).state = (s.att a).state ∧ (t.att a).desc = (s.att a).desc ∧
      (t.att a).generation = (s.att a).generation ∧ (t.att a).q = (s.att a).q ∧ (t.att a).m = (s.att a).m ∧
      ((s.att a).state = .operating → (s.att a).aged = false →
        (t.att a).riders = 0 ∧
        (∃ adj : Int, (t.att a).throughput = min 65535 (((s.att a).throughput : Int) + adj).toNat ∧
          Rounds (16 * (s.att a).riders - (s.att a).throughput) (s.att a).desc.shift adj) ∧
        (t.att a).ageCounter = (s.att a).ageCounter - 1 ∧
        ((s.att a).ageCounter ≤ 1 → (t.att a).aged = true ∧ (t.att a).target = (s.att a).target ∧
          (t.att a).targetOver = (s.att a).targetOver ∧ (t.att a).posted = (s.att a).posted) ∧
        (1 < (s.att a).ageCounter → (t.att a).aged = false ∧
          (t.att a).posted = (if (t.att a).target < (s.att a).posted
            then max (t.att a).target ((s.att a).posted - (s.att a).desc.step) else (t.att a).target)) ∧
        (1 < (s.att a).ageCounter → ∃ ws r, (ws = (s.att a).windows ∨ ws = (t.att a).windows) ∧
          r = withTarget s.o s.nextReading.minute
            { s.att a with throughput := (t.att a).throughput, windows := ws } ∧
          (t.att a).target = r.target ∧ (t.att a).targetOver = r.targetOver)) ∧
      ((s.att a).state = .operating → (s.att a).aged = true →
        (t.att a).riders = (s.att a).riders ∧ (t.att a).throughput = (s.att a).throughput ∧
        (t.att a).ageCounter = (s.att a).ageCounter ∧ (t.att a).aged = true ∧ (t.att a).target = (s.att a).target ∧
        (t.att a).targetOver = (s.att a).targetOver ∧ (t.att a).posted = (s.att a).posted) ∧
      ((s.att a).state = .down →
        (t.att a).riders = 0 ∧ (t.att a).throughput = (s.att a).throughput ∧
        (t.att a).ageCounter = (s.att a).ageCounter ∧ (t.att a).aged = (s.att a).aged ∧
        (t.att a).target = (s.att a).target ∧ (t.att a).targetOver = (s.att a).targetOver ∧
        (t.att a).posted = (s.att a).posted) ∧
      ((s.att a).state = .closed ∨ (s.att a).state = .unused →
        (t.att a).riders = (s.att a).riders ∧ (t.att a).throughput = (s.att a).throughput ∧
        (t.att a).ageCounter = (s.att a).ageCounter ∧ (t.att a).aged = (s.att a).aged ∧
        (t.att a).target = (s.att a).target ∧ (t.att a).targetOver = (s.att a).targetOver ∧
        (t.att a).posted = (s.att a).posted)

/-- The frame at a minute tick for minute m: ARMED opens at O or later and ends at Z or later, OPEN ends at Z or later, and
FRAME is raised at every port exactly where the state changes; UNSET, HALF and ENDED stay, and so do O and Z (R10, R13, R14,
R16). -/
def Obligations.FrameAtMinuteTick : Prop :=
  ∀ s : State, s.minuteDue = true → ∃ t, exec .minuteTick s = .next t ∧
    t.openMinute = s.openMinute ∧ t.closeMinute = s.closeMinute ∧
    (s.day = .armed → s.nextReading.minute < s.o → t.day = .armed) ∧
    (s.day = .armed → s.o ≤ s.nextReading.minute → s.nextReading.minute < s.z → t.day = .opened) ∧
    (s.day = .armed → s.o ≤ s.nextReading.minute → s.z ≤ s.nextReading.minute → t.day = .ended) ∧
    (s.day = .opened → s.nextReading.minute < s.z → t.day = .opened) ∧
    (s.day = .opened → s.z ≤ s.nextReading.minute → t.day = .ended) ∧
    (s.day = .unset ∨ s.day = .half ∨ s.day = .ended → t.day = s.day) ∧
    ∀ q, (t.port q).has .frame = ((s.port q).has .frame || decide (t.day ≠ s.day))

/-- The end of the frame at a minute tick for minute m, from OPEN, and from ARMED where m is O or later too: every window of
every list is SPENT, with ended-at m where it was FUTURE, OPEN or SLIPPED and its own otherwise, and keeps C, B and A; every
slot in use is freed in ascending order and keeps its generation; every offer is absent; WINDOW is raised at each port whose
shadow names an attraction with a window that was not SPENT (R10, R13, R101, R102, R129). -/
def Obligations.FrameEnd : Prop :=
  ∀ s : State, s.minuteDue = true → (s.day = .opened ∨ s.day = .armed ∧ s.o ≤ s.nextReading.minute) →
    s.z ≤ s.nextReading.minute → ∃ t, exec .minuteTick s = .next t ∧ t.day = .ended ∧
    (∀ a, (t.att a).windows = (s.att a).windows.map (List.map fun x =>
        { x with
          state := .spent
          endedAt := if x.state = .future ∨ x.state = .opened ∨ x.state = .slipped then some s.nextReading.minute
            else x.endedAt }) ∧
      (t.att a).offer = none) ∧
    (∀ i : SlotNo, t.slots[i].pass = none ∧ t.slots[i].generation = s.slots[i].generation) ∧
    t.freeQueue = s.freeQueue ++ (List.finRange Config.slots).filter (fun i => s.slots[i].pass.isSome) ∧
    ∀ q, (t.port q).has .window = ((s.port q).has .window ||
      match (s.port q).shadow with
      | some x => (s.att x.attraction).list.any fun w => w.state != .spent
      | none => false)

/-- The book at a minute tick for minute m within O..Z - 1 of an ARMED or OPEN frame: every window moves as R95 to R98 give
and keeps C, B and A; an ISSUED pass of a window that closes is EXPIRED, the passes of one that retires are gone, and every
other pass stays; the free queue keeps what it held in its place, and behind it stand exactly the slots freed at the tick,
each once, those of one attraction window by window in ascending index and within each in ascending slot number (R112, R114,
R128); every offer is the one of R108; WINDOW is raised at the ports whose shadow names an attraction with a moved window. At
a minute tick of an UNSET, HALF or ENDED frame, and at one of an ARMED frame before O, every window list, every slot, the free
queue and every WINDOW flag stay as they were (R17, R94). -/
def Obligations.WindowsAtMinuteTick : Prop :=
  (∀ (s : State) (o z m : Nat), s.minuteDue = true → m = s.nextReading.minute → s.day = .armed ∨ s.day = .opened →
    s.openMinute = some o → s.closeMinute = some z → o ≤ m → m < z → ∃ t, exec .minuteTick s = .next t ∧
    (∀ a, (t.att a).windows.isSome = (s.att a).windows.isSome ∧ (t.att a).list.length = (s.att a).list.length) ∧
    (∀ a w x, (s.att a).window w = some x → ∃ y, (t.att a).window w = some y ∧ MovedAt m o z (s.att a) w x y) ∧
    (∀ (i : SlotNo) r, s.slots[i].pass = some r →
      t.slots[i].generation = s.slots[i].generation ∧
      ((s.att r.attraction).window r.window = none → t.slots[i].pass = some r) ∧
      ∀ x y, (s.att r.attraction).window r.window = some x → (t.att r.attraction).window r.window = some y →
        t.slots[i].pass =
          if x.state ≠ .spent ∧ y.state = .spent then none
          else if x.state ≠ .closed ∧ y.state = .closed ∧ r.state = .issued then some { r with state := .expired }
          else some r) ∧
    (∀ i : SlotNo, s.slots[i].pass = none → t.slots[i] = s.slots[i]) ∧
    s.freeQueue <+: t.freeQueue ∧ (t.freeQueue.drop s.freeQueue.length).Nodup ∧
    (∀ i : SlotNo, i ∈ t.freeQueue.drop s.freeQueue.length ↔ s.slots[i].pass ≠ none ∧ t.slots[i].pass = none) ∧
    (∀ a, ((t.freeQueue.drop s.freeQueue.length).filter fun i => (s.slots[i].pass.map (·.attraction)) == some a) =
      s.retiring m o a) ∧
    (∀ a, (s.att a).windows.isSome = true → (t.att a).offer = offerNow t (t.att a)) ∧
    ∀ q, (t.port q).has .window = ((s.port q).has .window ||
      match (s.port q).shadow with
      | some x => (t.att x.attraction).list.map (·.state) != (s.att x.attraction).list.map (·.state)
      | none => false)) ∧
  ∀ s : State, s.minuteDue = true →
    s.day = .unset ∨ s.day = .half ∨ s.day = .ended ∨ s.day = .armed ∧ s.nextReading.minute < s.o →
    ∃ t, exec .minuteTick s = .next t ∧ (∀ a, (t.att a).windows = (s.att a).windows) ∧ t.slots = s.slots ∧
      t.freeQueue = s.freeQueue ∧ ∀ q, (t.port q).has .window = (s.port q).has .window

/-- AGING_TICK is the minute tick (log 4): one that runs out the age counter of an OPERATING attraction sets its aged flag,
holds its target, over flag and posted minutes, posts the flag, and sets AGED at every port unless another work of the tick
ends the span, which none does (R65, R70, R176). -/
def Obligations.AgingTick : Prop :=
  ∀ (s : State) (a : AttrNo), s.minuteDue = true → (s.att a).state = .operating → (s.att a).aged = false →
    (s.att a).ageCounter ≤ 1 → ∃ t, exec (.agingTick a) s = .next t ∧ exec .minuteTick s = .next t ∧
      (t.att a).aged = true ∧ (t.att a).ageCounter = 0 ∧ (t.att a).riders = 0 ∧ (t.att a).target = (s.att a).target ∧
      (t.att a).targetOver = (s.att a).targetOver ∧ (t.att a).posted = (s.att a).posted ∧
      (t.postings[a].shown.map (·.aged)) = some true ∧ ∀ q, (t.port q).has .aged = true

/-- RETIREMENT is the minute tick (log 4): at one for minute m within O..Z - 1 of an ARMED or OPEN frame, a CLOSED or VOID
window whose retention has run becomes SPENT and keeps its ended-at minute, C, B and A; every slot whose pass names it is
freed, keeps its generation, and its number stands in the free queue behind those that stood there, the attraction's slots
window by window in ascending index and within each in ascending slot number; WINDOW is raised where a shadow names the
attraction (R94, R97, R98, R102, R114, R128). -/
def Obligations.Retirement : Prop :=
  ∀ (s : State) (a : AttrNo) (w : Nat) (x : Window) (o z : Nat), s.minuteDue = true → s.day = .armed ∨ s.day = .opened →
    s.openMinute = some o → s.closeMinute = some z → o ≤ s.nextReading.minute → s.nextReading.minute < z →
    (s.att a).window w = some x → x.state = .closed ∨ x.state = .void →
    max (x.endedAt.getD 0) o + 30 ≤ s.nextReading.minute →
    ∃ t, exec (.retirement a w) s = .next t ∧ exec .minuteTick s = .next t ∧
      (t.att a).window w = some { x with state := .spent } ∧
      (∀ i : SlotNo, (∃ r, s.slots[i].pass = some r ∧ r.attraction = a ∧ r.window = w) →
        t.slots[i].pass = none ∧ t.slots[i].generation = s.slots[i].generation ∧ i ∈ t.freeQueue.drop s.freeQueue.length) ∧
      s.freeQueue <+: t.freeQueue ∧
      ((t.freeQueue.drop s.freeQueue.length).filter fun i => (s.slots[i].pass.map (·.attraction)) == some a) =
        s.retiring s.nextReading.minute o a ∧
      ∀ q, s.watches q a = true → (t.port q).has .window = true

/-! ## The count lines -/

/-- MILLISECOND_SAMPLE: every line moves by its own input as R53, R56 and R57 give, in whatever order the lines are taken; an
attraction that no line brings a count for keeps its record, and where no line brings a count nothing else changes (the order
counter of log 12 apart). -/
def Obligations.MillisecondSample : Prop :=
  ∀ (levels : Levels) (s : State), Settled s → ∃ t, exec (.millisecondSample levels) s = .next t ∧
    (∀ l : LineNo,
      match s.lines[l] with
      | .unbound => t.lines[l] = .unbound
      | .armed b settled candidate =>
        t.lines[l] =
          if levels[l] = settled then .armed b settled none
          else if b.qualify ≤ candidate.getD 0 + 1 then .armed b levels[l] none
          else .armed b settled (some (candidate.getD 0 + 1))
      | .unarmed b count held =>
        let run :=
          match b.edge with
          | .rising => if levels[l] then 0 else count + 1
          | .falling => if levels[l] then count + 1 else 0
          | .both => if count ≠ 0 ∧ levels[l] = held then count + 1 else 1
        t.lines[l] =
          if run = 0 then .unarmed b 0 false
          else if b.qualify ≤ run then .armed b levels[l] none
          else .unarmed b run levels[l]) ∧
    KeepsBut [.lines, .choice, .attractions, .postings, .dirty, .ports] s t ∧ PortsQuiet s t ∧ Settled t ∧
    Raises s t nothing ∧
    (∀ a : AttrNo, (∀ l : LineNo, BringsCount s.lines[l] levels[l] →
        ∀ b, s.lines[l].binding? = some b → b.attraction ≠ a) → t.att a = s.att a) ∧
    ((∀ l : LineNo, ¬ BringsCount s.lines[l] levels[l]) → KeepsBut [.lines, .choice] s t)

/-- QUALIFIED_TRANSITION: at the sample that completes a line's candidate the settled level takes the new level and the
candidate is cleared; where no other line brings a count at that sample, a counting edge is one entry of one guest or one
dispatch of ceil(seats × fill / 100) riders, applied or ignored by the attraction's state, and a release changes no record
(R53, R57, R58, R59), for descriptors in their ranges (R20). -/
def Obligations.QualifiedTransition : Prop :=
  ∀ (levels : Levels) (s : State) (l : LineNo) (b : Binding) (settled : Bool) (candidate : Option Nat), Settled s →
    RecordsLaw s →
    s.lines[l] = .armed b settled candidate → levels[l] ≠ settled → b.qualify ≤ candidate.getD 0 + 1 →
    (∀ x : LineNo, x ≠ l → ¬ BringsCount s.lines[x] levels[x]) →
    ∃ t, exec (.qualifiedTransition l levels) s = .next t ∧ exec (.millisecondSample levels) s = .next t ∧
      t.lines[l] = .armed b levels[l] none ∧
      OthersKept b.attraction s t ∧ Publishes s t ∧ Raises s t nothing ∧ PortsQuiet s t ∧
      KeepsBut [.lines, .choice, .attractions, .postings, .dirty, .ports] s t ∧
      (¬ CountingEdge b.edge levels[l] → t.att b.attraction = s.att b.attraction) ∧
      (CountingEdge b.edge levels[l] → b.kind = .entry →
        t.att b.attraction =
          if (s.att b.attraction).state = .operating ∨ (s.att b.attraction).state = .down then
            { s.att b.attraction with q := min 65535 ((s.att b.attraction).q + 1) }
          else s.att b.attraction) ∧
      (CountingEdge b.edge levels[l] → b.kind = .dispatch →
        ((s.att b.attraction).state = .operating → ∃ riders : Nat,
          (s.att b.attraction).desc.seats * (s.att b.attraction).desc.fill ≤ 100 * riders ∧
          100 * riders < (s.att b.attraction).desc.seats * (s.att b.attraction).desc.fill + 100 ∧
          Dispatched riders (s.att b.attraction) (t.att b.attraction)) ∧
        ((s.att b.attraction).state ≠ .operating → t.att b.attraction = s.att b.attraction))

/-- LINE_ARMING: a RISING or FALLING line arms at the sample that makes q consecutive ones at its inactive level, a BOTH line
at the sample that makes q at either level, with that level as its settled level and no candidate; arming brings no count
(R56). -/
def Obligations.LineArming : Prop :=
  ∀ (levels : Levels) (s : State) (l : LineNo) (b : Binding) (count : Nat) (held : Bool), Settled s →
    s.lines[l] = .unarmed b count held → b.qualify ≤ count + 1 →
    (b.edge = .rising ∧ levels[l] = false ∨ b.edge = .falling ∧ levels[l] = true ∨
      b.edge = .both ∧ count ≠ 0 ∧ levels[l] = held) →
    ∃ t, exec (.lineArming l levels) s = .next t ∧ exec (.millisecondSample levels) s = .next t ∧
      t.lines[l] = .armed b levels[l] none ∧
      ((∀ x : LineNo, x ≠ l → ¬ BringsCount s.lines[x] levels[x]) → KeepsBut [.lines, .choice] s t)

/-! ## The board line -/

/-- FRAME_COMPLETION: SCAN is raised at the ports strapped OPS where the frame ended a pass, and nowhere else; then a frame
starts or the line goes IDLE. RESYNCHRONISING_GAP_END: a frame starts if any entry is valid, and otherwise the line is IDLE
(R152, R153, R155, R156). -/
def Obligations.FrameCompletionAndGapEnd : Prop :=
  (∀ (s : State) (f : SignFrame) (passEnd : Bool), s.board = .sending f passEnd →
    ∃ t, exec .frameCompletion s = .next t ∧ FrameStart s t ∧ KeepsBut [.dirty, .refresh, .board, .ports] s t ∧
      ∀ q, t.port q = if passEnd = true ∧ (s.port q).role = .ops then (s.port q).raise .scan else s.port q) ∧
  ∀ s : State, s.board = .resynchronising → ∃ t, exec .resynchronisingGapEnd s = .next t ∧ FrameStart s t ∧
    KeepsBut [.dirty, .refresh, .board] s t

/-! ## The link of a port -/

/-- PSEL_FALL: what the port shifts out is fixed for the period: the reply frame and then zeros while READY, 0xFE and zeros
while WORKING, 0xFF and zeros while IDLE (R160); PDO, at high impedance before, shows the most significant bit of the first
byte at the fall, and one bit more at each falling edge of PCLK, each byte most significant bit first (R158). -/
def Obligations.SelectFall : Prop :=
  ∀ (s : State) (p : PortNo), (s.port p).period = none → ∃ t x, exec (.pselFall p) s = .next t ∧
    (t.port p).period = some x ∧ t.port p = { s.port p with period := some x } ∧ (∀ q, q ≠ p → t.port q = s.port q) ∧
    KeepsBut [.ports] s t ∧ (∀ n, s.pdo p n = none) ∧
    (∀ reply, (s.port p).link = .ready reply →
      x.atFall = .ready ∧ (∀ n, reply.length ≤ n → x.shifted n = reply ++ List.replicate (n - reply.length) 0) ∧
      ∀ n, (∀ b, reply[n / 8]? = some b → t.pdo p n = some (b.getLsbD (7 - n % 8))) ∧
        (8 * reply.length ≤ n → t.pdo p n = some false)) ∧
    (∀ request, (s.port p).link = .working request →
      x.atFall = .working ∧ ∀ n, (1 ≤ n → x.shifted n = 0xFE :: List.replicate (n - 1) 0) ∧
        t.pdo p n = some (decide (n < 7))) ∧
    ((s.port p).link = .idle →
      x.atFall = .idle ∧ ∀ n, (1 ≤ n → x.shifted n = 0xFF :: List.replicate (n - 1) 0) ∧
        t.pdo p n = some (decide (n < 8)))

/-- PSEL_RISE: of the bits clocked in, the whole bytes count and up to seven left over are discarded; the link state after the
period is that of the table of R163, a taken request being held up to its 35th byte, and PDO is at high impedance (R158, R161,
R162, R163, R165; log 8). -/
def Obligations.SelectRise : Prop :=
  ∀ (s : State) (p : PortNo) (x : Period) (bytes : List Byte) (left : List Bool), (s.port p).period = some x →
    left.length < 8 → ∃ t, exec (.pselRise p (bitsOfBytes bytes ++ left)) s = .next t ∧
      t.port p = { s.port p with period := none, link := (t.port p).link } ∧ (∀ q, q ≠ p → t.port q = s.port q) ∧
      KeepsBut [.ports] s t ∧ (∀ n, t.pdo p n = none) ∧
      (x.atFall = .working → (t.port p).link = (s.port p).link) ∧
      (x.atFall ≠ .working → (∃ kind rest, bytes = kind :: rest ∧ kind ≠ 0) →
        (t.port p).link = .working (bytes.take 35)) ∧
      (x.atFall = .idle → (∀ kind rest, bytes = kind :: rest → kind = 0) → (t.port p).link = (s.port p).link) ∧
      (x.atFall = .ready → (∀ kind rest, bytes = kind :: rest → kind = 0) →
        (t.port p).link = if x.out.length ≤ bytes.length then .idle else (s.port p).link)

/-! ## The checks common to requests -/

/-- A request whose frame fails its check is answered FRAME_ERROR under whatever row holds it (log 7), and one whose frame
passes but whose kind byte is none of the 26 is answered UNKNOWN_REQUEST; nothing else changes, and the kind echo is the kind
byte, 0x00 for 0xFE and 0xFF; a known kind sent from a role without a mark in the table of R168 is refused with NOT_PERMITTED,
and a permitted request whose argument length is not the one its kind calls for with BAD_ARGUMENT (R165 to R169, R185). That a
RIDE port's SET_STATE whose second argument byte is 1 is refused with NOT_PERMITTED also where its argument length is wrong is
the model's reading of R31 and R167 (log 9: DEDUCED). -/
def Obligations.CommonChecks : Prop :=
  (∀ (s : State) (p : PortNo) (request : List Byte), (s.port p).link = .working request → openFrame request = none →
    exec ((rowOf request).command p) s =
      .next (s.withReply p (replyFrame (if request.headD 0 = 0xFE ∨ request.headD 0 = 0xFF then 0 else request.headD 0)
        0x01 []))) ∧
    (∀ (s : State) (p : PortNo) (kind : Byte) (args : List Byte), Sent s p kind args → kind ∉ knownKinds →
      exec (.unknownRequest p) s =
        .next (s.withReply p (replyFrame (if kind = 0xFE ∨ kind = 0xFF then 0 else kind) 0x02 []))) ∧
  ∀ (s : State) (p : PortNo) (request : List Byte) (kind : Byte) (args : List Byte),
    (s.port p).link = .working request → request.head? = some kind → openFrame request = some args → kind ∈ knownKinds →
    (maySend (s.port p).role kind args = false → Refuses ((rowOf request).command p) s p kind .notPermitted) ∧
    (maySend (s.port p).role kind args = true → args.length ≠ argumentLength kind →
      Refuses ((rowOf request).command p) s p kind .badArgument)

/-! ## Event requests and reads -/

/-- STATUS and READ_CLOCK change nothing and report the port's flags, masks, leading event and role, the frame state and the
running clock; the clock, the clock byte, the pending value, the frame state, O and Z, zeros standing for what is absent (R7,
R180, R185). -/
def Obligations.StatusAndReadClock : Prop :=
  (∀ (s : State) (p : PortNo), Settled s → Sent s p 0x01 [] → ∃ lead, (s.port p).Leads lead ∧
    Grants (.status p) s p 0x01 s
      [(s.port p).flags, (s.port p).enable, (s.port p).level, byte lead, byte (s.port p).role.code, byte s.day.code,
        byte s.clock.hours, byte s.clock.minutes, byte s.clock.seconds]) ∧
    ∀ (s : State) (p : PortNo), Settled s → Sent s p 0x04 [] →
      Grants (.readClock p) s p 0x04 s
        ([byte s.clock.hours, byte s.clock.minutes, byte s.clock.seconds,
          byte ((if s.clockSet then 1 else 0) + (if s.pendingClock = none then 0 else 2) +
            (if s.openMinute = none then 0 else 4) + (if s.closeMinute = none then 0 else 8))] ++
          (match s.pendingClock with
            | some v => [byte v.hours, byte v.minutes, byte v.seconds]
            | none => [0, 0, 0]) ++
          [byte s.day.code] ++ be16 (s.openMinute.getD 0) ++ be16 (s.closeMinute.getD 0))

/-- ACK_EVENTS clears the named flags, but a level-type one whose condition holds is left set, and reports the flags and the
leading event as they then stand; SET_EVENTS replaces both masks and changes no flag; and a port asserts ATTN exactly while a
set flag is of an enabled kind and its link is IDLE or READY (R178, R179, R180, R181). -/
def Obligations.AckAndSetEvents : Prop :=
  (∀ (s : State) (p : PortNo) (mask : Byte), Settled s → Sent s p 0x02 [mask] → ∃ (flags : Byte) (lead : Nat),
    (∀ k : EventKind, k.inMask flags = ((s.port p).has k && (!k.inMask mask || !k.edge))) ∧
    Port.Leads { s.port p with flags := flags } lead ∧
    Grants (.ackEvents p) s p 0x02 (s.updPort p fun q => { q with flags := flags }) [flags, byte lead]) ∧
    (∀ (s : State) (p : PortNo) (enable level : Byte), Settled s → Sent s p 0x03 [enable, level] →
      Grants (.setEvents p) s p 0x03 (s.updPort p fun q => { q with enable := enable, level := level }) [enable, level]) ∧
    ∀ (s : State) (p : PortNo), s.attn p = true ↔
      (∃ k : EventKind, (s.port p).has k = true ∧ k.inMask (s.port p).enable = true) ∧
        ((s.port p).link = .idle ∨ ∃ reply, (s.port p).link = .ready reply)

/-- SELECT copies the six terms of an attraction in use into the port's shadow, which is then current, so STALE is not due; it
is refused for an index outside 0..47 and for an UNUSED attraction (R170, R171). -/
def Obligations.Select : Prop :=
  ∀ (s : State) (p : PortNo) (index : Byte), Settled s → Sent s p 0x05 [index] →
    (47 < index.toNat → Refuses (.select p) s p 0x05 .badArgument) ∧
    ∀ a : AttrNo, index = byte a.val →
      ((s.att a).state = .unused → Refuses (.select p) s p 0x05 .noAttraction) ∧
      ((s.att a).state ≠ .unused → ∃ flags : Byte,
        (∀ k : EventKind, k.inMask flags = ((s.port p).has k && decide (k ≠ .stale))) ∧
        Grants (.select p) s p 0x05
          (s.updPort p fun q =>
            { q with
              shadow := some ⟨a, (s.att a).generation, (s.att a).desc.length, (s.att a).desc.share, (s.att a).desc.minLead,
                (s.att a).list.length⟩
              flags := flags })
          [index, byte (s.att a).generation, byte (s.att a).desc.length, byte (s.att a).desc.share,
            byte (s.att a).desc.minLead, byte (s.att a).list.length])

/-- READ_POSTING carries the posting record, its other fields zero unless the marker is OPERATING, and takes the index out of
the sending port's change set and no other; POSTING stays due there only while the set has a member (R133, R138, R177, R187).
-/
def Obligations.ReadPosting : Prop :=
  ∀ (s : State) (p : PortNo) (index : Byte), Settled s → Sent s p 0x06 [index] →
    (47 < index.toNat → Refuses (.readPosting p) s p 0x06 .badArgument) ∧
    ∀ a : AttrNo, index = byte a.val → ∃ (changed : Vector Bool Config.attractions) (flags : Byte),
      (∀ b : AttrNo, changed[b] = ((s.port p).changed[b] && decide (b ≠ a))) ∧
      (∀ k : EventKind, k.inMask flags = if k = .posting then decide (∃ b : AttrNo, changed[b] = true) else (s.port p).has k) ∧
      Grants (.readPosting p) s p 0x06 (s.updPort p fun q => { q with changed := changed, flags := flags })
        (if (s.att a).state = .operating then
          [index, 2,
            byte ((if (s.att a).targetOver then 1 else 0) + (if (s.att a).aged then 2 else 0) +
              (if (s.att a).offer = none then 0 else 4)),
            byte (s.att a).posted] ++ be16 ((s.att a).offer.getD 0)
        else [index, byte (s.att a).state.code, 0, 0, 0, 0])

/-- READ_CHANGED takes the lowest members of the change set, up to six, out of it, and carries the count left and their
posting records in ascending order (R139, R177). -/
def Obligations.ReadChanged : Prop :=
  ∀ (s : State) (p : PortNo), Settled s → Sent s p 0x07 [] →
    ∃ (taken left : List AttrNo) (changed : Vector Bool Config.attractions) (flags : Byte),
      (taken ++ left).Pairwise (· < ·) ∧ (∀ a, a ∈ taken ++ left ↔ (s.port p).changed[a] = true) ∧
      taken.length = min 6 (taken.length + left.length) ∧
      (∀ a : AttrNo, changed[a] = decide (a ∈ left)) ∧
      (∀ k : EventKind, k.inMask flags = if k = .posting then decide (left ≠ []) else (s.port p).has k) ∧
      Grants (.readChanged p) s p 0x07 (s.updPort p fun q => { q with changed := changed, flags := flags })
        (byte left.length :: taken.flatMap fun a => postingBytes a s.postings[a])

/-- READ_WINDOWS reads the list of the attraction in the port's shadow: refused for a count outside 1..8, with no selection,
and with a stale one; otherwise it changes nothing and carries the index, the list's count and the records from the first
index on, up to the count asked (R141, R142, R187). -/
def Obligations.ReadWindows : Prop :=
  ∀ (s : State) (p : PortNo) (first count : Byte), Settled s → Sent s p 0x08 [first, count] →
    (count.toNat < 1 ∨ 8 < count.toNat → Refuses (.readWindows p) s p 0x08 .badArgument) ∧
    (1 ≤ count.toNat → count.toNat ≤ 8 →
      ((s.port p).shadow = none → Refuses (.readWindows p) s p 0x08 .noSelection) ∧
      ∀ x, (s.port p).shadow = some x →
        (x.generation ≠ (s.att x.attraction).generation → Refuses (.readWindows p) s p 0x08 .stale) ∧
        (x.generation = (s.att x.attraction).generation → ∃ records : List (List Byte),
          records.length = min count.toNat ((s.att x.attraction).list.length - first.toNat) ∧
          (∀ n r, records[n]? = some r → ∃ y, (s.att x.attraction).window (first.toNat + n) = some y ∧
            r = [byte (first.toNat + n)] ++ be16 (s.o + (first.toNat + n) * (s.att x.attraction).desc.length) ++
              be16 (s.o + (first.toNat + n) * (s.att x.attraction).desc.length + (s.att x.attraction).desc.length) ++
              [byte y.state.code] ++ be16 y.quota ++ be16 y.booked ++ be16 y.arrived ++ be16 (y.endedAt.getD 0)) ∧
          Grants (.readWindows p) s p 0x08 s
            ([byte x.attraction.val, byte (s.att x.attraction).list.length] ++ records.flatten)))

/-- READ_PASS changes nothing: an id that names no pass is refused with UNKNOWN_PASS, and otherwise the reply carries the pass
record, the start and end of its window and the window's state (R111, R125, R187). -/
def Obligations.ReadPass : Prop :=
  ∀ (s : State) (p : PortNo) (hi lo : Byte) (i : SlotNo), Settled s → Sent s p 0x09 [hi, lo] →
    i.val = (256 * hi.toNat + lo.toNat) % 4096 →
    (s.slots[i].pass = none ∨ s.slots[i].generation ≠ (256 * hi.toNat + lo.toNat) / 4096 →
      Refuses (.readPass p) s p 0x09 .unknownPass) ∧
    ∀ r x, s.slots[i].pass = some r → s.slots[i].generation = (256 * hi.toNat + lo.toNat) / 4096 →
      (s.att r.attraction).window r.window = some x →
      Grants (.readPass p) s p 0x09 s
        ([hi, lo, byte r.attraction.val, byte r.window, byte r.party, byte r.state.code] ++ be16 r.issuedAt ++
          [byte r.port.val] ++ be16 (r.redeemedAt.getD 0) ++ be16 (s.o + r.window * (s.att r.attraction).desc.length) ++
          be16 (s.o + r.window * (s.att r.attraction).desc.length + (s.att r.attraction).desc.length) ++ [byte x.state.code])

/-- READ_ATTRACTION changes nothing: refused for an index outside 0..47 and for an UNUSED attraction, it carries otherwise the
state, the 18 descriptor bytes, the generation, Q, M, R_min, T and the age counter (R143, R185, R186). -/
def Obligations.ReadAttraction : Prop :=
  ∀ (s : State) (p : PortNo) (index : Byte), Settled s → Sent s p 0x0A [index] →
    (47 < index.toNat → Refuses (.readAttraction p) s p 0x0A .badArgument) ∧
    ∀ a : AttrNo, index = byte a.val →
      ((s.att a).state = .unused → Refuses (.readAttraction p) s p 0x0A .noAttraction) ∧
      ((s.att a).state ≠ .unused →
        Grants (.readAttraction p) s p 0x0A s
          ([byte (s.att a).state.code] ++ be16 (s.att a).desc.rate ++
            [(s.att a).desc.share, (s.att a).desc.mergeShare, (s.att a).desc.length, (s.att a).desc.seats,
              (s.att a).desc.fill, (s.att a).desc.shift, (s.att a).desc.floorRate, (s.att a).desc.lookAhead,
              (s.att a).desc.showRate, (s.att a).desc.walkOffset, (s.att a).desc.step, (s.att a).desc.maxPosted,
              (s.att a).desc.ageLimit, (s.att a).desc.earlyGrace, (s.att a).desc.lateGrace, (s.att a).desc.minLead].map byte ++
            [byte (s.att a).generation] ++ be16 (s.att a).q ++ be16 (s.att a).m ++ be16 (s.att a).riders ++
            be16 (s.att a).throughput ++ [byte (s.att a).ageCounter]))

/-! ## The clock and the frame -/

/-- SET_CLOCK holds its value as the pending clock value: refused for a field out of its range, and in OPEN and ENDED for a
value earlier than the running reading or more than 3600 seconds later (R4). -/
def Obligations.SetClock : Prop :=
  ∀ (s : State) (p : PortNo) (h m sec : Byte) (v : Time), Settled s → Sent s p 0x10 [h, m, sec] →
    (s.port p).role = .ops → v = ⟨h.toNat, m.toNat, sec.toNat⟩ →
    (¬ v.Valid → Refuses (.setClock p) s p 0x10 .badArgument) ∧
    (v.Valid →
      ((s.day = .opened ∨ s.day = .ended) → v.second < s.clock.second → Refuses (.setClock p) s p 0x10 .clockBack) ∧
      ((s.day = .opened ∨ s.day = .ended) → s.clock.second + 3600 < v.second →
        Refuses (.setClock p) s p 0x10 .stepTooLarge) ∧
      ((s.day = .opened ∨ s.day = .ended → s.clock.second ≤ v.second ∧ v.second ≤ s.clock.second + 3600) →
        Grants (.setClock p) s p 0x10 { s with pendingClock := some v } []))

/-- FRAME_OPEN: the range, the clock-set flag and the frame states it is refused in; in UNSET and HALF it writes O, in ARMED
it returns the frame to HALF with an empty book, and where O is the missing value of a HALF frame it confirms the pair under
the three conditions of R9 (R8, R9, R11, R12, R14, R16). WINDOW is raised at the building and the removal of every list, of
one of no windows too, which is the model's reading of R102 (log 18: DEDUCED). -/
def Obligations.FrameOpen : Prop :=
  ∀ (s : State) (p : PortNo) (hi lo : Byte) (o : Nat), Settled s → Sent s p 0x11 [hi, lo] → (s.port p).role = .ops →
    o = 256 * hi.toNat + lo.toNat →
    (1439 < o → Refuses (.frameOpen p) s p 0x11 .badArgument) ∧
    (o ≤ 1439 →
      (¬ (s.day = .half ∧ s.openMinute = none ∧ s.closeMinute ≠ none) → s.clockSet = false →
        Refuses (.frameOpen p) s p 0x11 .clockUnset) ∧
      (s.clockSet = true → s.day = .opened ∨ s.day = .ended → Refuses (.frameOpen p) s p 0x11 .frameState) ∧
      (s.clockSet = true → s.day = .unset → Grants (.frameOpen p) s p 0x11
        ({ s with openMinute := some o, day := .half }.mapPorts (Port.raise .frame)) []) ∧
      (s.clockSet = true → s.day = .half → s.openMinute ≠ none →
        Grants (.frameOpen p) s p 0x11 { s with openMinute := some o } []) ∧
      (s.clockSet = true → s.day = .armed →
        Carries (.frameOpen p) s p 0x11 [] [.frame]
          (both (everywhere .frame) (windowWhere s fun a => (s.att a).windows.isSome)) fun t =>
          t.day = .half ∧ t.openMinute = some o ∧ t.closeMinute = none ∧ Emptied s t) ∧
      ∀ z, s.day = .half → s.openMinute = none → s.closeMinute = some z →
        (¬ (o < z ∧ o + 30 ≤ z ∧ s.now < z) → Refuses (.frameOpen p) s p 0x11 .badArgument) ∧
        (o + 30 ≤ z → s.now < z → s.clockSet = false → Refuses (.frameOpen p) s p 0x11 .clockUnset) ∧
        (o + 30 ≤ z → s.now < z → s.clockSet = true →
          Carries (.frameOpen p) s p 0x11 [] [.frame]
            (both (everywhere .frame) (windowWhere s fun a => (s.att a).inUse)) fun t => Confirmed s t o z))

/-- FRAME_CLOSE outside OPEN: the range, the clock-set flag and the refusal in ENDED; in UNSET and HALF it writes Z, in ARMED
it returns the frame to HALF with an empty book, and where Z is the missing value of a HALF frame it confirms the pair (R8,
R9, R11, R14, R16). WINDOW is raised at the building and the removal of every list, of one of no windows too, which is the
model's reading of R102 (log 18: DEDUCED). -/
def Obligations.FrameClose : Prop :=
  ∀ (s : State) (p : PortNo) (hi lo : Byte) (z : Nat), Settled s → Sent s p 0x12 [hi, lo] → (s.port p).role = .ops →
    z = 256 * hi.toNat + lo.toNat →
    (1439 < z → Refuses (.frameClose p) s p 0x12 .badArgument) ∧
    (z ≤ 1439 → s.day ≠ .opened →
      (¬ (s.day = .half ∧ s.closeMinute = none ∧ s.openMinute ≠ none) → s.clockSet = false →
        Refuses (.frameClose p) s p 0x12 .clockUnset) ∧
      (s.clockSet = true → s.day = .ended → Refuses (.frameClose p) s p 0x12 .frameState) ∧
      (s.clockSet = true → s.day = .unset → Grants (.frameClose p) s p 0x12
        ({ s with closeMinute := some z, day := .half }.mapPorts (Port.raise .frame)) []) ∧
      (s.clockSet = true → s.day = .half → s.closeMinute ≠ none →
        Grants (.frameClose p) s p 0x12 { s with closeMinute := some z } []) ∧
      (s.clockSet = true → s.day = .armed →
        Carries (.frameClose p) s p 0x12 [] [.frame]
          (both (everywhere .frame) (windowWhere s fun a => (s.att a).windows.isSome)) fun t =>
          t.day = .half ∧ t.openMinute = none ∧ t.closeMinute = some z ∧ Emptied s t) ∧
      ∀ o, s.day = .half → s.closeMinute = none → s.openMinute = some o →
        (¬ (o < z ∧ o + 30 ≤ z ∧ s.now < z) → Refuses (.frameClose p) s p 0x12 .badArgument) ∧
        (o + 30 ≤ z → s.now < z → s.clockSet = false → Refuses (.frameClose p) s p 0x12 .clockUnset) ∧
        (o + 30 ≤ z → s.now < z → s.clockSet = true →
          Carries (.frameClose p) s p 0x12 [] [.frame]
            (both (everywhere .frame) (windowWhere s fun a => (s.att a).inUse)) fun t => Confirmed s t o z))

/-- FRAME_CLOSE in OPEN moves Z: refused unless the new Z is at least now + 2 and at least 30 after O; the present Z changes
nothing; a later Z adds FUTURE windows up to the new count; an earlier Z is refused with IN_USE if a window that would cease
is not FUTURE or is booked, and otherwise cuts every list to the new count (R12, R91, R92, R109); WINDOW is raised exactly
where a list's count changes, which is the model's reading of R102 (log 17: DEDUCED). -/
def Obligations.MoveClose : Prop :=
  ∀ (s : State) (p : PortNo) (hi lo : Byte) (o z new : Nat), Settled s → Sent s p 0x12 [hi, lo] → (s.port p).role = .ops →
    new = 256 * hi.toNat + lo.toNat → new ≤ 1439 → s.day = .opened → s.openMinute = some o → s.closeMinute = some z →
    (new < s.now + 2 ∨ new < o + 30 → Refuses (.frameClose p) s p 0x12 .badArgument) ∧
    (s.now + 2 ≤ new → o + 30 ≤ new →
      (s.clockSet = false → Refuses (.frameClose p) s p 0x12 .clockUnset) ∧
      (s.clockSet = true → new = z → Grants (.frameClose p) s p 0x12 s []) ∧
      (s.clockSet = true → new < z →
        (∃ a w x, (s.att a).window w = some x ∧ min 64 ((new - o) / (s.att a).desc.length) ≤ w ∧
          (x.state ≠ .future ∨ 0 < x.booked)) → Refuses (.frameClose p) s p 0x12 .inUse) ∧
      (s.clockSet = true → new ≠ z →
        (new < z → ∀ a w x, (s.att a).window w = some x → min 64 ((new - o) / (s.att a).desc.length) ≤ w →
          x.state = .future ∧ x.booked = 0) →
        Carries (.frameClose p) s p 0x12 [] [.frame]
          (windowWhere s fun a =>
            let n := min 64 ((new - o) / (s.att a).desc.length)
            if z < new then decide (0 < n - (s.att a).list.length) && (s.att a).windows.isSome
            else decide (n < (s.att a).list.length)) fun t =>
          t.day = .opened ∧ t.openMinute = some o ∧ t.closeMinute = some new ∧
          ∀ a, (t.att a).offer = offerNow t (t.att a) ∧
            t.att a =
              { s.att a with
                windows := (s.att a).windows.map fun ws =>
                  let n := min 64 ((new - o) / (s.att a).desc.length)
                  if z < new then
                    ws ++ List.replicate (n - ws.length)
                      ⟨(s.att a).desc.rate * (s.att a).desc.share * (s.att a).desc.length / 6000, 0, 0, .future, none⟩
                  else ws.take n
                offer := (t.att a).offer }))

/-- CLEAR_DAY: refused in OPEN; otherwise the frame is UNSET, the book empty, and every OPERATING or DOWN attraction CLOSED
with its counts 0; FRAME is raised unless the frame was UNSET, ATTRACTION if an attraction was closed, WINDOW where a list was
removed (R15, R16, R37, R48). That the removal of a list of no windows raises WINDOW too is the model's reading of R102 (log
18: DEDUCED), and that the pass table and the free queue stay as they stand is its reading of R15 and R116 (log 21: DEDUCED).
-/
def Obligations.ClearDay : Prop :=
  ∀ (s : State) (p : PortNo), Settled s → Sent s p 0x13 [] → (s.port p).role = .ops →
    (s.day = .opened → Refuses (.clearDay p) s p 0x13 .frameState) ∧
    (s.day ≠ .opened →
      Carries (.clearDay p) s p 0x13 [] [.frame]
        (both (fun _ j => (decide (j = .frame) && decide (s.day ≠ .unset)) ||
            (decide (j = .attraction) && decide (∃ a, (s.att a).state = .operating ∨ (s.att a).state = .down)))
          (windowWhere s fun a => (s.att a).windows.isSome)) fun t =>
        t.day = .unset ∧ t.openMinute = none ∧ t.closeMinute = none ∧
        ∀ a, ((s.att a).state = .operating ∨ (s.att a).state = .down →
            t.att a = { s.att a with windows := none, offer := none, state := .closed, q := 0, m := 0, riders := 0 }) ∧
          ((s.att a).state = .closed ∨ (s.att a).state = .unused →
            t.att a = { s.att a with windows := none, offer := none }))

/-! ## The attraction table -/

/-- The ranges of R20 and the combinations of R21; CONFIGURE of an UNUSED record, and its argument checks: the record becomes
CLOSED with the descriptor carried, generation 0 and counts 0; a list is built in ARMED and OPEN alone; ATTRACTION is raised
everywhere, and the reply carries 0 (R20, R21, R23, R89, R90). That the building of a list of no windows raises WINDOW too is
the model's reading of R102 (log 18: DEDUCED). -/
def Obligations.ConfigureNew : Prop :=
  (∀ d : Descriptor,
    (d.inRange = true ↔
      (60 ≤ d.rate ∧ d.rate ≤ 6000) ∧ d.share ≤ 90 ∧ d.mergeShare ≤ 100 ∧
        (d.length = 5 ∨ d.length = 10 ∨ d.length = 15 ∨ d.length = 20 ∨ d.length = 30 ∨ d.length = 60) ∧
        (1 ≤ d.seats ∧ d.seats ≤ 64) ∧ (50 ≤ d.fill ∧ d.fill ≤ 100) ∧ (1 ≤ d.shift ∧ d.shift ≤ 6) ∧
        (1 ≤ d.floorRate ∧ d.floorRate ≤ 100) ∧ d.lookAhead ≤ 60 ∧ (50 ≤ d.showRate ∧ d.showRate ≤ 100) ∧
        d.walkOffset ≤ 30 ∧ (d.step = 1 ∨ d.step = 5 ∨ d.step = 10) ∧ (30 ≤ d.maxPosted ∧ d.maxPosted ≤ 240) ∧
        (2 ≤ d.ageLimit ∧ d.ageLimit ≤ 30) ∧ d.earlyGrace ≤ 30 ∧ d.lateGrace ≤ 30 ∧ d.minLead ≤ 120) ∧
    (d.combines = true ↔ d.step ∣ d.maxPosted ∧ (0 < d.share → d.mergeShare ≠ 0))) ∧
  ∀ (s : State) (p : PortNo) (index : Byte) (fields : List Byte) (d : Descriptor), Settled s → RecordsLaw s →
    Sent s p 0x14 (index :: fields) → (s.port p).role = .ops → readDescriptor fields = some d →
    (47 < index.toNat ∨ d.inRange = false → Refuses (.configure p) s p 0x14 .badArgument) ∧
    ∀ a : AttrNo, index = byte a.val → d.inRange = true →
      (d.combines = false → Refuses (.configure p) s p 0x14 .badCombination) ∧
      (d.combines = true → (s.att a).state = .unused →
        Carries (.configure p) s p 0x14 [0] []
          (both (everywhere .attraction) (windowAt s a (s.day = .armed || s.day = .opened))) fun t =>
          OthersKept a s t ∧
          t.att a = { Attraction.unused with state := .closed, desc := d, windows := (t.att a).windows } ∧
          (s.day = .unset ∨ s.day = .half ∨ s.day = .ended → (t.att a).windows = none) ∧
          (s.day = .armed ∨ s.day = .opened → ∃ ws, (t.att a).windows = some ws ∧
            Built (s.day = .opened) s.now s.o s.z d false ws))

/-- CONFIGURE of a record in use: a new window length is refused in OPEN and ENDED; otherwise the fields are replaced, the
generation advances, the age counter is cut to the new limit, FUTURE quotas are recomputed or, for a new length in ARMED, the
list is rebuilt; an OPERATING attraction posts its target at once and has its offer recomputed; every port whose shadow held
the old generation is STALE (R22, R24 to R27, R93, R104). That the rebuilding of a list of no windows raises WINDOW too is the
model's reading of R102 (log 18: DEDUCED). -/
def Obligations.ConfigureUsed : Prop :=
  ∀ (s : State) (p : PortNo) (fields : List Byte) (d : Descriptor) (a : AttrNo), Settled s →
    Sent s p 0x14 (byte a.val :: fields) → (s.port p).role = .ops → readDescriptor fields = some d →
    d.inRange = true → d.combines = true → (s.att a).state ≠ .unused →
    ((s.att a).desc.length ≠ d.length → s.day = .opened ∨ s.day = .ended → Refuses (.configure p) s p 0x14 .frameState) ∧
    ((s.att a).desc.length = d.length ∨ s.day ≠ .opened ∧ s.day ≠ .ended →
      Carries (.configure p) s p 0x14 [byte (((s.att a).generation + 1) % 256)] []
        (windowAt s a (decide ((s.att a).desc.length ≠ d.length) && s.day = .armed)) fun t =>
        OthersKept a s t ∧
        (∀ q x, (s.port q).shadow = some x → x.attraction = a → x.generation = (s.att a).generation →
          (t.port q).has .stale = true) ∧
        ((s.att a).desc.length ≠ d.length → s.day = .armed → ∃ ws, (t.att a).windows = some ws ∧
          Built false s.now s.o s.z d false ws) ∧
        (¬ ((s.att a).desc.length ≠ d.length ∧ s.day = .armed) →
          (t.att a).windows = (s.att a).windows.map (List.map fun x =>
            if x.state = .future then { x with quota := d.rate * d.share * d.length / 6000 } else x)) ∧
        ((s.att a).state ≠ .operating → t.att a =
          { s.att a with
            desc := d
            generation := ((s.att a).generation + 1) % 256
            ageCounter := min (s.att a).ageCounter d.ageLimit
            windows := (t.att a).windows }) ∧
        ((s.att a).state = .operating →
          (t.att a).posted = (t.att a).target ∧ (t.att a).offer = offerNow t (t.att a) ∧
          t.att a = withTarget s.o s.now
            { s.att a with
              desc := d
              generation := ((s.att a).generation + 1) % 256
              ageCounter := min (s.att a).ageCounter d.ageLimit
              windows := (t.att a).windows
              posted := (t.att a).posted
              offer := (t.att a).offer }))

/-- RELEASE: refused for an index outside 0..47, for an UNUSED attraction, for one OPERATING or DOWN, and for one a pass
names; otherwise the record becomes UNUSED, its lines UNBOUND, the shadows that name it absent, and ATTRACTION is raised
everywhere (R29, R30). -/
def Obligations.Release : Prop :=
  ∀ (s : State) (p : PortNo) (index : Byte), Settled s → Sent s p 0x15 [index] → (s.port p).role = .ops →
    (47 < index.toNat → Refuses (.release p) s p 0x15 .badArgument) ∧
    ∀ a : AttrNo, index = byte a.val →
      ((s.att a).state = .unused → Refuses (.release p) s p 0x15 .noAttraction) ∧
      ((s.att a).state = .operating ∨ (s.att a).state = .down → Refuses (.release p) s p 0x15 .rideState) ∧
      ((s.att a).state = .closed → (∃ (i : SlotNo) (r : Pass), s.slots[i].pass = some r ∧ r.attraction = a) →
        Refuses (.release p) s p 0x15 .inUse) ∧
      ((s.att a).state = .closed → (∀ (i : SlotNo) (r : Pass), s.slots[i].pass = some r → r.attraction ≠ a) →
        ∃ t, exec (.release p) s = .next t ∧ t.att a = .unused ∧ OthersKept a s t ∧ Publishes s t ∧
          Raises s t (everywhere .attraction) ∧
          KeepsBut [.attractions, .postings, .dirty, .ports, .lines] s t ∧
          (∀ l : LineNo, t.lines[l] =
            if s.lines[l].binding?.map (·.attraction) = some a then .unbound else s.lines[l]) ∧
          (t.port p).link = .ready (replyFrame 0x15 0x00 []) ∧
          ∀ q, (q ≠ p → (t.port q).link = (s.port q).link) ∧
            (t.port q).shadow = (if s.watches q a then none else (s.port q).shadow) ∧
            (t.port q).role = (s.port q).role ∧ (t.port q).period = (s.port q).period ∧
            (t.port q).enable = (s.port q).enable ∧ (t.port q).level = (s.port q).level)

/-- SET_STATE asking for OPERATING: from CLOSED, which a RIDE port may not ask, T is seeded; from DOWN it is kept; the age
counter is loaded, the aged flag cleared, the target computed and posted at once and the offer computed; an attraction already
OPERATING is left as it is; and a state wanted that is none of the three is refused with BAD_ARGUMENT, whatever the index
(R31, R32, R34, R36, R184; that such a request falls under this row is the model's choice, log 7). -/
def Obligations.SetStateOperating : Prop :=
  (∀ (s : State) (p : PortNo) (index wanted : Byte), Sent s p 0x16 [index, wanted] →
    (s.port p).role = .ops ∨ (s.port p).role = .ride → wanted ≠ 1 → wanted ≠ 2 → wanted ≠ 3 →
    Refuses (.setStateOperating p) s p 0x16 .badArgument) ∧
  ∀ (s : State) (p : PortNo) (index : Byte), Settled s → Sent s p 0x16 [index, 2] →
    (s.port p).role = .ops ∨ (s.port p).role = .ride →
    (47 < index.toNat → Refuses (.setStateOperating p) s p 0x16 .badArgument) ∧
    ∀ a : AttrNo, index = byte a.val →
      ((s.att a).state = .unused → Refuses (.setStateOperating p) s p 0x16 .noAttraction) ∧
      ((s.att a).state = .closed → (s.port p).role = .ride → Refuses (.setStateOperating p) s p 0x16 .rideState) ∧
      ((s.att a).state = .operating → Grants (.setStateOperating p) s p 0x16 s [2]) ∧
      ((s.att a).state = .closed ∧ (s.port p).role = .ops ∨ (s.att a).state = .down →
        Carries (.setStateOperating p) s p 0x16 [2] [] (everywhere .attraction) fun t =>
          OthersKept a s t ∧ (t.att a).posted = (t.att a).target ∧ (t.att a).offer = offerNow t (t.att a) ∧
          t.att a = withTarget s.o s.now
            { s.att a with
              state := .operating
              throughput :=
                if (s.att a).state = .closed then 16 * (s.att a).desc.rate / 60 else (s.att a).throughput
              ageCounter := (s.att a).desc.ageLimit
              aged := false
              posted := (t.att a).posted
              offer := (t.att a).offer })

/-- SET_STATE asking for DOWN: from OPERATING every OPEN window slips and the offer is absent, with WINDOW where a shadow
names the attraction and a window slipped; from CLOSED it is refused; a DOWN attraction is left as it is (R31, R33, R36, R99,
R102). -/
def Obligations.SetStateDown : Prop :=
  ∀ (s : State) (p : PortNo) (index : Byte), Settled s → Sent s p 0x16 [index, 3] →
    (s.port p).role = .ops ∨ (s.port p).role = .ride →
    (47 < index.toNat → Refuses (.setStateDown p) s p 0x16 .badArgument) ∧
    ∀ a : AttrNo, index = byte a.val →
      ((s.att a).state = .unused → Refuses (.setStateDown p) s p 0x16 .noAttraction) ∧
      ((s.att a).state = .closed → Refuses (.setStateDown p) s p 0x16 .rideState) ∧
      ((s.att a).state = .down → Grants (.setStateDown p) s p 0x16 s [3]) ∧
      ((s.att a).state = .operating →
        Carries (.setStateDown p) s p 0x16 [3] []
          (both (everywhere .attraction) (windowAt s a ((s.att a).list.any fun x => x.state = .opened))) fun t =>
          OthersKept a s t ∧
          t.att a =
            { s.att a with
              state := .down
              offer := none
              windows := (s.att a).windows.map (List.map fun x =>
                if x.state = .opened then { x with state := .slipped } else x) })

/-- SET_STATE asking for CLOSED: refused from a RIDE port whatever the attraction; from OPERATING or DOWN every FUTURE, OPEN
or SLIPPED window becomes VOID with ended-at now, its ISSUED passes VOIDED, the three counts 0 and the offer absent; a CLOSED
attraction is left as it is (R31, R35, R36, R48, R100, R102, R127). -/
def Obligations.SetStateClosed : Prop :=
  ∀ (s : State) (p : PortNo) (index : Byte), Settled s → Sent s p 0x16 [index, 1] →
    ((s.port p).role ≠ .ops → Refuses (.setStateClosed p) s p 0x16 .notPermitted) ∧
    ((s.port p).role = .ops →
      (47 < index.toNat → Refuses (.setStateClosed p) s p 0x16 .badArgument) ∧
      ∀ a : AttrNo, index = byte a.val →
        ((s.att a).state = .unused → Refuses (.setStateClosed p) s p 0x16 .noAttraction) ∧
        ((s.att a).state = .closed → Grants (.setStateClosed p) s p 0x16 s [1]) ∧
        ((s.att a).state = .operating ∨ (s.att a).state = .down →
          Carries (.setStateClosed p) s p 0x16 [1] [.passes]
            (both (everywhere .attraction) (windowAt s a ((s.att a).list.any fun x =>
              x.state = .future || x.state = .opened || x.state = .slipped))) fun t =>
            OthersKept a s t ∧
            t.att a =
              { s.att a with
                state := .closed
                q := 0
                m := 0
                riders := 0
                offer := none
                windows := (s.att a).windows.map (List.map fun x =>
                  if x.state = .future ∨ x.state = .opened ∨ x.state = .slipped then
                    { x with state := .void, endedAt := some s.now }
                  else x) } ∧
            t.freeQueue = s.freeQueue ∧
            ∀ i : SlotNo, t.slots[i].generation = s.slots[i].generation ∧
              (s.slots[i].pass = none → t.slots[i].pass = none) ∧
              ∀ r, s.slots[i].pass = some r →
                ((r.state = .issued ∧ r.attraction = a ∧ ∃ x, (s.att a).window r.window = some x ∧
                    (x.state = .future ∨ x.state = .opened ∨ x.state = .slipped)) →
                  t.slots[i].pass = some { r with state := .voided }) ∧
                (¬ (r.state = .issued ∧ r.attraction = a ∧ ∃ x, (s.att a).window r.window = some x ∧
                    (x.state = .future ∨ x.state = .opened ∨ x.state = .slipped)) →
                  t.slots[i].pass = some r)))

/-! ## BIND_LINE -/

/-- BIND: refused for a line, attraction, kind, edge or qualify time out of its range and for an UNUSED attraction; otherwise
the binding is replaced whole and the line is UNARMED with nothing seen, a qualify field of 0 selecting 20 (R54, R185). -/
def Obligations.Bind : Prop :=
  ∀ (s : State) (p : PortNo) (line attraction kind edge qualify : Byte), Settled s →
    Sent s p 0x17 [line, 0, attraction, kind, edge, qualify] → (s.port p).role = .ops →
    (15 < line.toNat ∨ 47 < attraction.toNat ∨ 1 < kind.toNat ∨ 2 < edge.toNat ∨ qualify = 1 ∨ 60 < qualify.toNat →
      Refuses (.bind p) s p 0x17 .badArgument) ∧
    ∀ (l : LineNo) (a : AttrNo) (k : LineKind) (e : Edge), line = byte l.val → attraction = byte a.val →
      kind = byte k.code → edge = byte e.code → qualify ≠ 1 → qualify.toNat ≤ 60 →
      ((s.att a).state = .unused → Refuses (.bind p) s p 0x17 .noAttraction) ∧
      ((s.att a).state ≠ .unused → ∃ q : Nat, q = (if qualify = 0 then 20 else qualify.toNat) ∧
        Grants (.bind p) s p 0x17 (s.setLine l (.unarmed ⟨a, k, e, q⟩ 0 false))
          [line, 1, attraction, kind, edge, byte q, 2])

/-- A BIND_LINE with an operation that is none of the three is refused with BAD_ARGUMENT (R54, R184; the row it falls under is
the model's choice, log 7). UNBIND and INQUIRE look at the line number alone: UNBIND leaves the line UNBOUND, INQUIRE changes
nothing and carries the line's state, its binding and, where it is ARMED, its settled level (R55, R185). -/
def Obligations.UnbindAndInquire : Prop :=
  (∀ (s : State) (p : PortNo) (line op a k e q : Byte), Sent s p 0x17 [line, op, a, k, e, q] → (s.port p).role = .ops →
    2 < op.toNat → Refuses (.bind p) s p 0x17 .badArgument) ∧
  (∀ (s : State) (p : PortNo) (line a k e q : Byte), Settled s → Sent s p 0x17 [line, 1, a, k, e, q] →
    (s.port p).role = .ops →
    (15 < line.toNat → Refuses (.unbind p) s p 0x17 .badArgument) ∧
    ∀ l : LineNo, line = byte l.val →
      Grants (.unbind p) s p 0x17 (s.setLine l .unbound) [line, 0, 0, 0, 0, 0, 2]) ∧
  ∀ (s : State) (p : PortNo) (line a k e q : Byte), Settled s → Sent s p 0x17 [line, 2, a, k, e, q] →
    (s.port p).role = .ops →
    (15 < line.toNat → Refuses (.inquire p) s p 0x17 .badArgument) ∧
    ∀ l : LineNo, line = byte l.val →
      Grants (.inquire p) s p 0x17 s
        (match s.lines[l] with
        | .unbound => [line, 0, 0, 0, 0, 0, 2]
        | .unarmed b _ _ =>
          [line, 1, byte b.attraction.val, byte b.kind.code, byte b.edge.code, byte b.qualify, 2]
        | .armed b settled _ =>
          [line, 2, byte b.attraction.val, byte b.kind.code, byte b.edge.code, byte b.qualify, if settled then 1 else 0])

/-! ## The board list -/

/-- BOARD_SET: the entry number is checked, with the valid flag set also the address, the attraction and the content; a set
binds the entry, keeps its override code and marks it dirty, and an IDLE line starts its frame at once; a clear takes the
binding, the override code and the place in the dirty set away; a valid byte that is neither 0 nor 1 is refused with
BAD_ARGUMENT (R146, R147, R149, R152, R154, R184; that such a request falls under the row of a set is the model's choice, log
7). -/
def Obligations.BoardSet : Prop :=
  (∀ (s : State) (p : PortNo) (entry valid address attraction content : Byte),
    Sent s p 0x18 [entry, valid, address, attraction, content] → (s.port p).role = .ops → valid ≠ 0 → valid ≠ 1 →
    Refuses (.boardSet p) s p 0x18 .badArgument) ∧
  (∀ (s : State) (p : PortNo) (entry address attraction content : Byte), Settled s → BoardLaw s →
    Sent s p 0x18 [entry, 1, address, attraction, content] → (s.port p).role = .ops →
    (63 < entry.toNat ∨ address = 0 ∨ address = 255 ∨ 47 < attraction.toNat ∨ 1 < content.toNat →
      Refuses (.boardSet p) s p 0x18 .badArgument) ∧
    ∀ (e : EntryNo) (a : AttrNo) (c : Content), entry = byte e.val → attraction = byte a.val → content = byte c.code →
      address ≠ 0 → address ≠ 255 →
      ∃ t, exec (.boardSet p) s = .next (t.withReply p (replyFrame 0x18 0x00
          [entry, 1, address, attraction, content, byte s.entries[e].override])) ∧
        KeepsBut [.entries, .dirty, .board] s t ∧
        t.entries[e] = ⟨some ⟨address.toNat, a, c⟩, s.entries[e].override⟩ ∧
        (∀ x : EntryNo, x ≠ e → t.entries[x] = s.entries[x] ∧ t.dirty[x] = s.dirty[x]) ∧
        (s.board ≠ .idle → t.board = s.board ∧ t.dirty[e] = true) ∧
        (s.board = .idle → t.dirty[e] = false ∧ ∃ f, t.board = .sending f false ∧
          Sends ⟨address.toNat, a, c⟩ s.entries[e].override s.postings[a] f)) ∧
  ∀ (s : State) (p : PortNo) (entry address attraction content : Byte), Settled s →
    Sent s p 0x18 [entry, 0, address, attraction, content] → (s.port p).role = .ops →
    (63 < entry.toNat → Refuses (.boardSetClear p) s p 0x18 .badArgument) ∧
    ∀ e : EntryNo, entry = byte e.val →
      Grants (.boardSetClear p) s p 0x18
        { s with entries := s.entries.set e ⟨none, 0⟩, dirty := s.dirty.set e false } [entry, 0, 0, 0, 0, 0]

/-- BOARD_OVERRIDE: its checks, the override code of an entry replaced, valid or not, and a valid one marked dirty (R148). -/
def Obligations.BoardOverride : Prop :=
  ∀ (s : State) (p : PortNo) (entry code : Byte), Settled s → Sent s p 0x19 [entry, code] →
    ((s.port p).role ≠ .ops → Refuses (.boardOverride p) s p 0x19 .notPermitted) ∧
    ((s.port p).role = .ops → 63 < entry.toNat ∨ 15 < code.toNat → Refuses (.boardOverride p) s p 0x19 .badArgument) ∧
    ∀ e : EntryNo, (s.port p).role = .ops → entry = byte e.val → code.toNat ≤ 15 →
      Grants (.boardOverride p) s p 0x19
        { s with
          entries := s.entries.set e ⟨s.entries[e].binding, code.toNat⟩
          dirty := if s.entries[e].binding.isSome then s.dirty.set e true else s.dirty } [entry, code]

/-! ## Counts -/

/-- ENTRY_REPORT: its checks, the rise of Q while OPERATING or DOWN, the report ignored while CLOSED, and the reply (R42). -/
def Obligations.EntryReport : Prop :=
  ∀ (s : State) (p : PortNo) (index count : Byte), Settled s → CountsLaw s → Sent s p 0x20 [index, count] →
    ((s.port p).role ≠ .ride → Refuses (.entryReport p) s p 0x20 .notPermitted) ∧
    ((s.port p).role = .ride →
      (47 < index.toNat ∨ 63 < count.toNat → Refuses (.entryReport p) s p 0x20 .badArgument) ∧
      ∀ a : AttrNo, index = byte a.val → count.toNat ≤ 63 →
        ((s.att a).state = .unused → Refuses (.entryReport p) s p 0x20 .noAttraction) ∧
        ((s.att a).state = .operating ∨ (s.att a).state = .down →
          Grants (.entryReport p) s p 0x20
            (s.setAtt a { s.att a with q := min 65535 ((s.att a).q + count.toNat) })
            (be16 (min 65535 ((s.att a).q + count.toNat)) ++ be16 (s.att a).m)) ∧
        ((s.att a).state = .closed → Grants (.entryReport p) s p 0x20 s [0, 0, 0, 0]))

/-- DISPATCH_REPORT: its checks, the riders clamped to the seats and applied by R44 and R45 while OPERATING, the report
ignored otherwise, and the reply, for descriptors in their ranges (R20, R43, R44, R45). -/
def Obligations.DispatchReport : Prop :=
  ∀ (s : State) (p : PortNo) (index count : Byte), Settled s → RecordsLaw s → Sent s p 0x21 [index, count] →
    ((s.port p).role ≠ .ride → Refuses (.dispatchReport p) s p 0x21 .notPermitted) ∧
    ((s.port p).role = .ride →
      (47 < index.toNat → Refuses (.dispatchReport p) s p 0x21 .badArgument) ∧
      ∀ a : AttrNo, index = byte a.val →
        ((s.att a).state = .unused → Refuses (.dispatchReport p) s p 0x21 .noAttraction) ∧
        ((s.att a).state = .closed ∨ (s.att a).state = .down →
          Grants (.dispatchReport p) s p 0x21 s ([0] ++ be16 (s.att a).q ++ be16 (s.att a).m)) ∧
        ((s.att a).state = .operating → ∃ r y, r = min count.toNat (s.att a).desc.seats ∧ Dispatched r (s.att a) y ∧
          Carries (.dispatchReport p) s p 0x21 ([byte r] ++ be16 y.q ++ be16 y.m) [] nothing fun t =>
            OthersKept a s t ∧ t.att a = y))

/-- QUEUE_SET: its checks, and Q replaced while OPERATING or DOWN with nothing else changed (R46). -/
def Obligations.QueueSet : Prop :=
  ∀ (s : State) (p : PortNo) (index hi lo : Byte), Settled s → Sent s p 0x22 [index, hi, lo] →
    ((s.port p).role = .issue ∨ (s.port p).role = .view → Refuses (.queueSet p) s p 0x22 .notPermitted) ∧
    ((s.port p).role = .ops ∨ (s.port p).role = .ride →
      (47 < index.toNat → Refuses (.queueSet p) s p 0x22 .badArgument) ∧
      ∀ a : AttrNo, index = byte a.val →
        ((s.att a).state = .unused → Refuses (.queueSet p) s p 0x22 .noAttraction) ∧
        ((s.att a).state = .closed → Refuses (.queueSet p) s p 0x22 .rideState) ∧
        ((s.att a).state = .operating ∨ (s.att a).state = .down →
          Grants (.queueSet p) s p 0x22 (s.setAtt a { s.att a with q := 256 * hi.toNat + lo.toNat })
            ([hi, lo] ++ be16 (s.att a).m)))

/-! ## The wait -/

/-- The computation of the target: U sums B - A over the live windows that start by now + look-ahead, D adds Q, M and the
share of U that comes, the raw wait is D over the throughput or the floor rounded up, the walk offset is added and the sum
rounded up to the step, and the cap sets the over flag (R74 to R78). -/
def Obligations.TargetWait : Prop :=
  ∀ (o now : Nat) (r : Attraction), 1 ≤ r.desc.floorRate → 1 ≤ r.desc.step → ∃ u d v raw w : Nat,
    u = ((List.range r.list.length).map fun w =>
      match r.window w with
      | some x => if (x.state = .future ∨ x.state = .opened ∨ x.state = .slipped) ∧
          o + w * r.desc.length ≤ now + r.desc.lookAhead then x.booked - x.arrived else 0
      | none => 0).sum ∧
    (r.q + r.m ≤ d ∧ u * r.desc.showRate ≤ 100 * (d - (r.q + r.m)) ∧
      100 * (d - (r.q + r.m)) < u * r.desc.showRate + 100) ∧
    v = max r.throughput (16 * r.desc.floorRate) ∧
    (16 * d ≤ v * raw ∧ v * raw < 16 * d + v) ∧
    (r.desc.step ∣ w ∧ raw + r.desc.walkOffset ≤ w ∧ w < raw + r.desc.walkOffset + r.desc.step) ∧
    (withTarget o now r).target = (if r.desc.maxPosted < w then r.desc.maxPosted else w) ∧
    (withTarget o now r).targetOver = decide (r.desc.maxPosted < w)

/-! ## Passes -/

/-- The window an ISSUE in mode EARLIEST chooses is the lowest that is FUTURE or OPEN, starts at or after now plus the greater
of the posted minutes and the min lead, and has room for the party; and the next-return offer is its start for a party of 1,
present only for an OPERATING attraction with a pass share in an OPEN frame (R105, R108). -/
def Obligations.WindowChoiceAndOffer : Prop :=
  (∀ (o now : Nat) (r : Attraction) (n w : Nat),
    chooseEarliest o now r n = some w ↔ Bookable o now r n w ∧ ∀ v, v < w → ¬ Bookable o now r n v) ∧
  ∀ (s : State) (r : Attraction) (m : Nat),
    offerNow s r = some m ↔ r.state = .operating ∧ s.day = .opened ∧ 0 < r.desc.share ∧
      ∃ w, Bookable s.o s.now r 1 w ∧ (∀ v, v < w → ¬ Bookable s.o s.now r 1 v) ∧ m = s.o + w * r.desc.length

/-- ISSUE in mode EARLIEST, and with a mode that is neither EARLIEST nor AT, which the model carries out under this row (log
7: the model's choice) and refuses with BAD_ARGUMENT: its checks in their order, NO_WINDOW where no window can be booked or
the share is 0, TABLE_FULL with no free slot, and otherwise the pass written into the lowest bookable window (R105, R113, R117
to R120). -/
def Obligations.IssueEarliest : Prop :=
  ∀ (s : State) (p : PortNo) (mode window party : Byte), Settled s → Sent s p 0x30 [mode, window, party] →
    (s.port p).role = .issue → mode ≠ 1 →
    (mode ≠ 0 ∨ party.toNat < 1 ∨ 8 < party.toNat → Refuses (.issueEarliest p) s p 0x30 .badArgument) ∧
    (mode = 0 → 1 ≤ party.toNat → party.toNat ≤ 8 →
      ((s.port p).shadow = none → Refuses (.issueEarliest p) s p 0x30 .noSelection) ∧
      ∀ x, (s.port p).shadow = some x →
        (x.generation ≠ (s.att x.attraction).generation → Refuses (.issueEarliest p) s p 0x30 .stale) ∧
        (x.generation = (s.att x.attraction).generation →
          (s.day ≠ .opened → Refuses (.issueEarliest p) s p 0x30 .frameState) ∧
          (s.day = .opened → (s.att x.attraction).state ≠ .operating → Refuses (.issueEarliest p) s p 0x30 .rideState) ∧
          (s.day = .opened → (s.att x.attraction).state = .operating →
            ((s.att x.attraction).desc.share = 0 ∨
                (∀ w, ¬ Bookable s.o s.now (s.att x.attraction) party.toNat w) →
              Refuses (.issueEarliest p) s p 0x30 .noWindow) ∧
            ∀ w, 0 < (s.att x.attraction).desc.share → Bookable s.o s.now (s.att x.attraction) party.toNat w →
              (∀ v, v < w → ¬ Bookable s.o s.now (s.att x.attraction) party.toNat v) →
              (s.freeQueue = [] → Refuses (.issueEarliest p) s p 0x30 .tableFull) ∧
              ∀ i rest, s.freeQueue = i :: rest →
                Carries (.issueEarliest p) s p 0x30
                  (be16 ((s.slots[i].generation + 1) % 16 * 4096 + i.val) ++ [byte w] ++
                    be16 (s.o + w * (s.att x.attraction).desc.length) ++
                    be16 (s.o + w * (s.att x.attraction).desc.length + (s.att x.attraction).desc.length))
                  [.passes] nothing fun t => Issued s t p x.attraction w party.toNat i rest)))

/-- ISSUE in mode AT: the index is checked against the list, or against 0..63 with no selection; then the checks of R118 and
R119, NO_WINDOW, TOO_SOON, WINDOW_FULL in this order, TABLE_FULL, and otherwise the pass written into that window (R106, R113,
R117 to R120). -/
def Obligations.IssueAt : Prop :=
  ∀ (s : State) (p : PortNo) (window party : Byte), Settled s → Sent s p 0x30 [1, window, party] →
    (s.port p).role = .issue →
    (party.toNat < 1 ∨ 8 < party.toNat → Refuses (.issueAt p) s p 0x30 .badArgument) ∧
    ((s.port p).shadow = none → 1 ≤ party.toNat → party.toNat ≤ 8 →
      (63 < window.toNat → Refuses (.issueAt p) s p 0x30 .badArgument) ∧
      (window.toNat ≤ 63 → Refuses (.issueAt p) s p 0x30 .noSelection)) ∧
    ∀ x, (s.port p).shadow = some x → 1 ≤ party.toNat → party.toNat ≤ 8 →
      ((s.att x.attraction).window window.toNat = none → Refuses (.issueAt p) s p 0x30 .badArgument) ∧
      ∀ y, (s.att x.attraction).window window.toNat = some y →
        (x.generation ≠ (s.att x.attraction).generation → Refuses (.issueAt p) s p 0x30 .stale) ∧
        (x.generation = (s.att x.attraction).generation →
          (s.day ≠ .opened → Refuses (.issueAt p) s p 0x30 .frameState) ∧
          (s.day = .opened → (s.att x.attraction).state ≠ .operating → Refuses (.issueAt p) s p 0x30 .rideState) ∧
          (s.day = .opened → (s.att x.attraction).state = .operating →
            ((s.att x.attraction).desc.share = 0 ∨ (y.state ≠ .future ∧ y.state ≠ .opened) →
              Refuses (.issueAt p) s p 0x30 .noWindow) ∧
            (0 < (s.att x.attraction).desc.share → y.state = .future ∨ y.state = .opened →
              let start := s.o + window.toNat * (s.att x.attraction).desc.length
              (start < s.now + (s.att x.attraction).desc.minLead → Refuses (.issueAt p) s p 0x30 .tooSoon) ∧
              (s.now + (s.att x.attraction).desc.minLead ≤ start →
                (y.quota < y.booked + party.toNat → Refuses (.issueAt p) s p 0x30 .windowFull) ∧
                (y.booked + party.toNat ≤ y.quota →
                  (s.freeQueue = [] → Refuses (.issueAt p) s p 0x30 .tableFull) ∧
                  ∀ i rest, s.freeQueue = i :: rest →
                    Carries (.issueAt p) s p 0x30
                      (be16 ((s.slots[i].generation + 1) % 16 * 4096 + i.val) ++ [window] ++ be16 start ++
                        be16 (start + (s.att x.attraction).desc.length))
                      [.passes] nothing fun t =>
                        Issued s t p x.attraction window.toNat party.toNat i rest)))))

/-- REDEEM: UNKNOWN_PASS, ALREADY_USED, EXPIRED and VOIDED by the pass, then RIDE_STATE, then TOO_EARLY with the opening time,
or where that falls before the day with some minute of the day (log 10); otherwise the pass is REDEEMED now, A of its window
and M of its attraction rise by the party, and nothing else changes (R111, R121, R122, R123). -/
def Obligations.Redeem : Prop :=
  ∀ (s : State) (p : PortNo) (hi lo : Byte) (i : SlotNo), Settled s → Sent s p 0x31 [hi, lo] → (s.port p).role = .issue →
    i.val = (256 * hi.toNat + lo.toNat) % 4096 →
    (s.slots[i].pass = none ∨ s.slots[i].generation ≠ (256 * hi.toNat + lo.toNat) / 4096 →
      Refuses (.redeem p) s p 0x31 .unknownPass) ∧
    ∀ r, s.slots[i].pass = some r → s.slots[i].generation = (256 * hi.toNat + lo.toNat) / 4096 →
      (r.state = .redeemed → Refuses (.redeem p) s p 0x31 .alreadyUsed) ∧
      (r.state = .expired → Refuses (.redeem p) s p 0x31 .expired) ∧
      (r.state = .voided → Refuses (.redeem p) s p 0x31 .voided) ∧
      (r.state = .issued → (s.att r.attraction).state ≠ .operating → Refuses (.redeem p) s p 0x31 .rideState) ∧
      ∀ x, r.state = .issued → (s.att r.attraction).state = .operating →
        (s.att r.attraction).window r.window = some x →
        (x.state = .future → ∃ m : Nat,
          ((s.att r.attraction).desc.earlyGrace ≤ s.o + r.window * (s.att r.attraction).desc.length →
            m = s.o + r.window * (s.att r.attraction).desc.length - (s.att r.attraction).desc.earlyGrace) ∧
          (s.o + r.window * (s.att r.attraction).desc.length < (s.att r.attraction).desc.earlyGrace → m ≤ 1439) ∧
          exec (.redeem p) s = .next (s.withReply p (replyFrame 0x31 0x1C (be16 m)))) ∧
        (x.state ≠ .future →
          Grants (.redeem p) s p 0x31
            ((s.setAtt r.attraction
              { s.att r.attraction with
                m := min 65535 ((s.att r.attraction).m + r.party)
                windows := (s.att r.attraction).windows.map (·.modify r.window fun y =>
                  { y with arrived := y.arrived + r.party }) }).setPass i
              { r with state := .redeemed, redeemedAt := some s.now })
            ([hi, lo, byte r.attraction.val, byte r.window, byte r.party] ++ be16 s.now))

/-- CANCEL: the refusals of REDEEM by the pass; an ISSUED pass loses its slot, which joins the tail of the free queue with its
generation kept, B of its window falls by the party, and the offer is recomputed (R111, R114, R124). -/
def Obligations.Cancel : Prop :=
  ∀ (s : State) (p : PortNo) (hi lo : Byte) (i : SlotNo), Settled s → Sent s p 0x32 [hi, lo] → (s.port p).role = .issue →
    i.val = (256 * hi.toNat + lo.toNat) % 4096 →
    (s.slots[i].pass = none ∨ s.slots[i].generation ≠ (256 * hi.toNat + lo.toNat) / 4096 →
      Refuses (.cancel p) s p 0x32 .unknownPass) ∧
    ∀ r, s.slots[i].pass = some r → s.slots[i].generation = (256 * hi.toNat + lo.toNat) / 4096 →
      (r.state = .redeemed → Refuses (.cancel p) s p 0x32 .alreadyUsed) ∧
      (r.state = .expired → Refuses (.cancel p) s p 0x32 .expired) ∧
      (r.state = .voided → Refuses (.cancel p) s p 0x32 .voided) ∧
      (r.state = .issued →
        Carries (.cancel p) s p 0x32 [byte r.attraction.val, byte r.window, byte r.party] [.passes] nothing fun t =>
          t.slots[i] = ⟨s.slots[i].generation, none⟩ ∧ (∀ j : SlotNo, j ≠ i → t.slots[j] = s.slots[j]) ∧
          t.freeQueue = s.freeQueue ++ [i] ∧ OthersKept r.attraction s t ∧
          t.att r.attraction =
            { s.att r.attraction with
              windows := (s.att r.attraction).windows.map (·.modify r.window fun y =>
                { y with booked := y.booked - r.party })
              offer := (t.att r.attraction).offer } ∧
          (t.att r.attraction).offer = offerNow t (t.att r.attraction))

/-! ## Encodings -/

/-- A whole request frame opens to its arguments, whatever bytes follow it; every cut of it fails its check, and so does every
one of it with its kind byte, an argument byte or its check byte damaged, the length byte not among them; a reply sums to 0
and carries its data's length (R165, R166). -/
def Obligations.RequestFrames : Prop :=
  ∀ (kind : Byte) (args extra : List Byte), args.length ≤ 32 →
    openFrame (requestFrame kind args ++ extra) = some args ∧
    (∀ n, n < (requestFrame kind args).length → openFrame ((requestFrame kind args).take n) = none) ∧
    (∀ (n : Nat) (b : Byte), n ≠ 1 → n < (requestFrame kind args).length → (requestFrame kind args)[n]? ≠ some b →
      openFrame ((requestFrame kind args).set n b ++ extra) = none) ∧
    ∀ (echo code : Byte) (data : List Byte), (replyFrame echo code data).sum = 0 ∧
      (data.length ≤ 255 → ((replyFrame echo code data)[2]?).map BitVec.toNat = some data.length ∧
        (replyFrame echo code data).length = data.length + 4)

/-- Bytes survive the port's bit order, with up to seven bits left over discarded; a descriptor in range survives its 18
bytes; a sign frame is its six fields and their sum in two bytes, and goes out as ten bits a byte, the start bit low, the
least significant data bit first, the stop bit high, and 20 bits high; and BOARD_TX shows the frame in flight, and the high
level while the line is IDLE, RESYNCHRONISING or past the gap (R151, R156, R158, R186, R188). -/
def Obligations.BitsAndDescriptors : Prop :=
  (∀ (bytes : List Byte) (left : List Bool), left.length < 8 → bytesOfBits (bitsOfBytes bytes ++ left) = bytes) ∧
    (∀ d : Descriptor, d.inRange = true → (descriptorBytes d).length = 18 ∧ readDescriptor (descriptorBytes d) = some d) ∧
    (∀ f : SignFrame, ∃ b : Fin 8 → Byte, f.bytes = List.ofFn b ∧
      (b 0 = byte f.address ∧ b 1 = byte f.kind.code ∧ b 2 = byte f.high ∧ b 3 = byte f.low ∧
        (b 4).toNat = (if f.overFlag then 1 else 0) + (if f.aged then 2 else 0) ∧ b 5 = byte f.override) ∧
      256 * (b 6).toNat + (b 7).toNat =
        (b 0).toNat + (b 1).toNat + (b 2).toNat + (b 3).toNat + (b 4).toNat + (b 5).toNat ∧
      f.waveform.length = 100 ∧
      (∀ n : Fin 8, f.waveform[10 * n.val]? = some false ∧ f.waveform[10 * n.val + 9]? = some true ∧
        ∀ j : Fin 8, f.waveform[10 * n.val + 1 + j.val]? = some ((b n).getLsbD j.val)) ∧
      ∀ n, 80 ≤ n → n < 100 → f.waveform[n]? = some true) ∧
    ∀ (s : State) (n : Nat),
      (s.board = .idle ∨ s.board = .resynchronising → s.boardTx n = true) ∧
        ∀ f passEnd, s.board = .sending f passEnd →
          (∀ b, f.waveform[n]? = some b → s.boardTx n = b) ∧ (100 ≤ n → s.boardTx n = true)

/-! ## Invariants -/

/-- The state after power-on meets every invariant. -/
def Obligations.InvariantsAtReset : Prop :=
  Settled State.reset ∧ CountsLaw State.reset ∧ RecordsLaw State.reset ∧ PostedLaw State.reset ∧ AgeLaw State.reset ∧
    BoardLaw State.reset ∧ ScanLaw State.reset ∧ FrameLaw State.reset ∧ BookSound State.reset

/-- Every step leaves the postings as their sources stand and every level-type flag as its condition stands (R133, R134,
R177). -/
def Obligations.SettledKept : Prop := ∀ s t : State, Settled s → step s = .next t → Settled t

/-- Every step keeps Q and M within 0..65535 and R_min within 0..4095, and all three 0 for a CLOSED or UNUSED attraction (R40,
R48). -/
def Obligations.CountsKept : Prop := ∀ s t : State, CountsLaw s → step s = .next t → CountsLaw t

/-- Every step keeps the free queue free of repeats and holding exactly the slots not in use, and the table empty whenever the
frame is not OPEN (R112, R116). -/
def Obligations.PassTableKept : Prop :=
  ∀ s t : State, QueueLaw s → TableLaw s → step s = .next t → QueueLaw t ∧ TableLaw t

/-- Every step keeps every descriptor in use in range, the age counter within its limit and tied to the aged flag, and the
posted minutes of an OPERATING attraction a multiple of the step within the cap (R20, R21, R70, R81). -/
def Obligations.PostedKept : Prop :=
  ∀ s t : State, RecordsLaw s → AgeLaw s → PostedLaw s → step s = .next t → RecordsLaw t ∧ AgeLaw t ∧ PostedLaw t

/-- Every step keeps the dirty set to valid entries, the line out of IDLE while an entry is valid, and SCAN to the ports
strapped OPS (R150, R152, R155, R176). -/
def Obligations.BoardKept : Prop :=
  ∀ s t : State, BoardLaw s → ScanLaw s → step s = .next t → BoardLaw t ∧ ScanLaw t

/-- Every step keeps O and Z present as the frame state says and in their ranges, and the clock a valid reading (section 1.4,
R1, R9). -/
def Obligations.FrameKept : Prop := ∀ s t : State, FrameLaw s → step s = .next t → FrameLaw t

/-- Every step keeps the book and the pass table in agreement: the lists of R86, the free queue of R112, no pass outside OPEN,
every pass naming a window in a state its own allows, B and A of every live window the sums of its parties, A at most B in
every window, and an ended-at minute exactly in the windows CLOSED, VOID and SPENT (R86, R87, R103, R112, R115, R116). -/
def Obligations.BookSoundKept : Prop := ∀ s t : State, BookSound s → step s = .next t → BookSound t
end

