-- ==== Sys2Proof/Laws/State.lean ====
section
/-! SUPPORT. One lemma per field for each update of the state, and reading after writing. -/

namespace Sys2Proof.Machine

/-! ## Tables -/

@[simp] theorem getElem_mapV {α β : Type} {n : Nat} (f : α → β) (v : Vector α n) (i : Nat) (h : i < n) :
    (mapV f v)[i] = f v[i] := by
  simp [mapV]

@[simp] theorem getElem_zipV {α β γ : Type} {n : Nat} (f : α → β → γ) (v : Vector α n) (w : Vector β n) (i : Nat)
    (h : i < n) : (zipV f v w)[i] = f v[i] w[i] := by
  simp [zipV]

theorem mapV_eq_map {α β : Type} {n : Nat} (f : α → β) (v : Vector α n) : mapV f v = v.map f := by
  ext i h
  simp

@[simp] theorem mem_members {n : Nat} (v : Vector Bool n) (i : Fin n) : i ∈ members v ↔ v[i] = true := by
  simp [members]

theorem nonEmpty_iff {n : Nat} (v : Vector Bool n) : nonEmpty v = true ↔ ∃ i : Fin n, v[i] = true := by
  simp only [nonEmpty, List.any_eq_true, id, List.mem_iff_getElem]
  constructor
  · rintro ⟨_, ⟨i, h, rfl⟩, hx⟩
    exact ⟨⟨i, by simpa using h⟩, by simpa using hx⟩
  · rintro ⟨i, hx⟩
    exact ⟨true, ⟨i, by simp, by simpa using hx⟩, rfl⟩

/-! ## Fields kept -/

/-! ### setAtt -/

@[simp] theorem setAtt_clock (s : State) (a : AttrNo) (r : Attraction) : (s.setAtt a r).clock = s.clock := rfl
@[simp] theorem setAtt_clockSet (s : State) (a : AttrNo) (r : Attraction) : (s.setAtt a r).clockSet = s.clockSet := rfl
@[simp] theorem setAtt_pendingClock (s : State) (a : AttrNo) (r : Attraction) : (s.setAtt a r).pendingClock = s.pendingClock := rfl
@[simp] theorem setAtt_day (s : State) (a : AttrNo) (r : Attraction) : (s.setAtt a r).day = s.day := rfl
@[simp] theorem setAtt_openMinute (s : State) (a : AttrNo) (r : Attraction) : (s.setAtt a r).openMinute = s.openMinute := rfl
@[simp] theorem setAtt_closeMinute (s : State) (a : AttrNo) (r : Attraction) : (s.setAtt a r).closeMinute = s.closeMinute := rfl
@[simp] theorem setAtt_slots (s : State) (a : AttrNo) (r : Attraction) : (s.setAtt a r).slots = s.slots := rfl
@[simp] theorem setAtt_freeQueue (s : State) (a : AttrNo) (r : Attraction) : (s.setAtt a r).freeQueue = s.freeQueue := rfl
@[simp] theorem setAtt_postings (s : State) (a : AttrNo) (r : Attraction) : (s.setAtt a r).postings = s.postings := rfl
@[simp] theorem setAtt_lines (s : State) (a : AttrNo) (r : Attraction) : (s.setAtt a r).lines = s.lines := rfl
@[simp] theorem setAtt_entries (s : State) (a : AttrNo) (r : Attraction) : (s.setAtt a r).entries = s.entries := rfl
@[simp] theorem setAtt_dirty (s : State) (a : AttrNo) (r : Attraction) : (s.setAtt a r).dirty = s.dirty := rfl
@[simp] theorem setAtt_refresh (s : State) (a : AttrNo) (r : Attraction) : (s.setAtt a r).refresh = s.refresh := rfl
@[simp] theorem setAtt_board (s : State) (a : AttrNo) (r : Attraction) : (s.setAtt a r).board = s.board := rfl
@[simp] theorem setAtt_ports (s : State) (a : AttrNo) (r : Attraction) : (s.setAtt a r).ports = s.ports := rfl
@[simp] theorem setAtt_choice (s : State) (a : AttrNo) (r : Attraction) : (s.setAtt a r).choice = s.choice := rfl
@[simp] theorem setAtt_pending (s : State) (a : AttrNo) (r : Attraction) : (s.setAtt a r).pending = s.pending := rfl

/-! ### updAtt -/

@[simp] theorem updAtt_clock (s : State) (a : AttrNo) (f : Attraction → Attraction) : (s.updAtt a f).clock = s.clock := rfl
@[simp] theorem updAtt_clockSet (s : State) (a : AttrNo) (f : Attraction → Attraction) : (s.updAtt a f).clockSet = s.clockSet := rfl
@[simp] theorem updAtt_pendingClock (s : State) (a : AttrNo) (f : Attraction → Attraction) : (s.updAtt a f).pendingClock = s.pendingClock := rfl
@[simp] theorem updAtt_day (s : State) (a : AttrNo) (f : Attraction → Attraction) : (s.updAtt a f).day = s.day := rfl
@[simp] theorem updAtt_openMinute (s : State) (a : AttrNo) (f : Attraction → Attraction) : (s.updAtt a f).openMinute = s.openMinute := rfl
@[simp] theorem updAtt_closeMinute (s : State) (a : AttrNo) (f : Attraction → Attraction) : (s.updAtt a f).closeMinute = s.closeMinute := rfl
@[simp] theorem updAtt_slots (s : State) (a : AttrNo) (f : Attraction → Attraction) : (s.updAtt a f).slots = s.slots := rfl
@[simp] theorem updAtt_freeQueue (s : State) (a : AttrNo) (f : Attraction → Attraction) : (s.updAtt a f).freeQueue = s.freeQueue := rfl
@[simp] theorem updAtt_postings (s : State) (a : AttrNo) (f : Attraction → Attraction) : (s.updAtt a f).postings = s.postings := rfl
@[simp] theorem updAtt_lines (s : State) (a : AttrNo) (f : Attraction → Attraction) : (s.updAtt a f).lines = s.lines := rfl
@[simp] theorem updAtt_entries (s : State) (a : AttrNo) (f : Attraction → Attraction) : (s.updAtt a f).entries = s.entries := rfl
@[simp] theorem updAtt_dirty (s : State) (a : AttrNo) (f : Attraction → Attraction) : (s.updAtt a f).dirty = s.dirty := rfl
@[simp] theorem updAtt_refresh (s : State) (a : AttrNo) (f : Attraction → Attraction) : (s.updAtt a f).refresh = s.refresh := rfl
@[simp] theorem updAtt_board (s : State) (a : AttrNo) (f : Attraction → Attraction) : (s.updAtt a f).board = s.board := rfl
@[simp] theorem updAtt_ports (s : State) (a : AttrNo) (f : Attraction → Attraction) : (s.updAtt a f).ports = s.ports := rfl
@[simp] theorem updAtt_choice (s : State) (a : AttrNo) (f : Attraction → Attraction) : (s.updAtt a f).choice = s.choice := rfl
@[simp] theorem updAtt_pending (s : State) (a : AttrNo) (f : Attraction → Attraction) : (s.updAtt a f).pending = s.pending := rfl

/-! ### mapAtts -/

@[simp] theorem mapAtts_clock (s : State) (f : Attraction → Attraction) : (s.mapAtts f).clock = s.clock := rfl
@[simp] theorem mapAtts_clockSet (s : State) (f : Attraction → Attraction) : (s.mapAtts f).clockSet = s.clockSet := rfl
@[simp] theorem mapAtts_pendingClock (s : State) (f : Attraction → Attraction) : (s.mapAtts f).pendingClock = s.pendingClock := rfl
@[simp] theorem mapAtts_day (s : State) (f : Attraction → Attraction) : (s.mapAtts f).day = s.day := rfl
@[simp] theorem mapAtts_openMinute (s : State) (f : Attraction → Attraction) : (s.mapAtts f).openMinute = s.openMinute := rfl
@[simp] theorem mapAtts_closeMinute (s : State) (f : Attraction → Attraction) : (s.mapAtts f).closeMinute = s.closeMinute := rfl
@[simp] theorem mapAtts_slots (s : State) (f : Attraction → Attraction) : (s.mapAtts f).slots = s.slots := rfl
@[simp] theorem mapAtts_freeQueue (s : State) (f : Attraction → Attraction) : (s.mapAtts f).freeQueue = s.freeQueue := rfl
@[simp] theorem mapAtts_postings (s : State) (f : Attraction → Attraction) : (s.mapAtts f).postings = s.postings := rfl
@[simp] theorem mapAtts_lines (s : State) (f : Attraction → Attraction) : (s.mapAtts f).lines = s.lines := rfl
@[simp] theorem mapAtts_entries (s : State) (f : Attraction → Attraction) : (s.mapAtts f).entries = s.entries := rfl
@[simp] theorem mapAtts_dirty (s : State) (f : Attraction → Attraction) : (s.mapAtts f).dirty = s.dirty := rfl
@[simp] theorem mapAtts_refresh (s : State) (f : Attraction → Attraction) : (s.mapAtts f).refresh = s.refresh := rfl
@[simp] theorem mapAtts_board (s : State) (f : Attraction → Attraction) : (s.mapAtts f).board = s.board := rfl
@[simp] theorem mapAtts_ports (s : State) (f : Attraction → Attraction) : (s.mapAtts f).ports = s.ports := rfl
@[simp] theorem mapAtts_choice (s : State) (f : Attraction → Attraction) : (s.mapAtts f).choice = s.choice := rfl
@[simp] theorem mapAtts_pending (s : State) (f : Attraction → Attraction) : (s.mapAtts f).pending = s.pending := rfl

/-! ### updPort -/

@[simp] theorem updPort_clock (s : State) (p : PortNo) (f : Port → Port) : (s.updPort p f).clock = s.clock := rfl
@[simp] theorem updPort_clockSet (s : State) (p : PortNo) (f : Port → Port) : (s.updPort p f).clockSet = s.clockSet := rfl
@[simp] theorem updPort_pendingClock (s : State) (p : PortNo) (f : Port → Port) : (s.updPort p f).pendingClock = s.pendingClock := rfl
@[simp] theorem updPort_day (s : State) (p : PortNo) (f : Port → Port) : (s.updPort p f).day = s.day := rfl
@[simp] theorem updPort_openMinute (s : State) (p : PortNo) (f : Port → Port) : (s.updPort p f).openMinute = s.openMinute := rfl
@[simp] theorem updPort_closeMinute (s : State) (p : PortNo) (f : Port → Port) : (s.updPort p f).closeMinute = s.closeMinute := rfl
@[simp] theorem updPort_attractions (s : State) (p : PortNo) (f : Port → Port) : (s.updPort p f).attractions = s.attractions := rfl
@[simp] theorem updPort_slots (s : State) (p : PortNo) (f : Port → Port) : (s.updPort p f).slots = s.slots := rfl
@[simp] theorem updPort_freeQueue (s : State) (p : PortNo) (f : Port → Port) : (s.updPort p f).freeQueue = s.freeQueue := rfl
@[simp] theorem updPort_postings (s : State) (p : PortNo) (f : Port → Port) : (s.updPort p f).postings = s.postings := rfl
@[simp] theorem updPort_lines (s : State) (p : PortNo) (f : Port → Port) : (s.updPort p f).lines = s.lines := rfl
@[simp] theorem updPort_entries (s : State) (p : PortNo) (f : Port → Port) : (s.updPort p f).entries = s.entries := rfl
@[simp] theorem updPort_dirty (s : State) (p : PortNo) (f : Port → Port) : (s.updPort p f).dirty = s.dirty := rfl
@[simp] theorem updPort_refresh (s : State) (p : PortNo) (f : Port → Port) : (s.updPort p f).refresh = s.refresh := rfl
@[simp] theorem updPort_board (s : State) (p : PortNo) (f : Port → Port) : (s.updPort p f).board = s.board := rfl
@[simp] theorem updPort_choice (s : State) (p : PortNo) (f : Port → Port) : (s.updPort p f).choice = s.choice := rfl
@[simp] theorem updPort_pending (s : State) (p : PortNo) (f : Port → Port) : (s.updPort p f).pending = s.pending := rfl

/-! ### mapPorts -/

@[simp] theorem mapPorts_clock (s : State) (f : Port → Port) : (s.mapPorts f).clock = s.clock := rfl
@[simp] theorem mapPorts_clockSet (s : State) (f : Port → Port) : (s.mapPorts f).clockSet = s.clockSet := rfl
@[simp] theorem mapPorts_pendingClock (s : State) (f : Port → Port) : (s.mapPorts f).pendingClock = s.pendingClock := rfl
@[simp] theorem mapPorts_day (s : State) (f : Port → Port) : (s.mapPorts f).day = s.day := rfl
@[simp] theorem mapPorts_openMinute (s : State) (f : Port → Port) : (s.mapPorts f).openMinute = s.openMinute := rfl
@[simp] theorem mapPorts_closeMinute (s : State) (f : Port → Port) : (s.mapPorts f).closeMinute = s.closeMinute := rfl
@[simp] theorem mapPorts_attractions (s : State) (f : Port → Port) : (s.mapPorts f).attractions = s.attractions := rfl
@[simp] theorem mapPorts_slots (s : State) (f : Port → Port) : (s.mapPorts f).slots = s.slots := rfl
@[simp] theorem mapPorts_freeQueue (s : State) (f : Port → Port) : (s.mapPorts f).freeQueue = s.freeQueue := rfl
@[simp] theorem mapPorts_postings (s : State) (f : Port → Port) : (s.mapPorts f).postings = s.postings := rfl
@[simp] theorem mapPorts_lines (s : State) (f : Port → Port) : (s.mapPorts f).lines = s.lines := rfl
@[simp] theorem mapPorts_entries (s : State) (f : Port → Port) : (s.mapPorts f).entries = s.entries := rfl
@[simp] theorem mapPorts_dirty (s : State) (f : Port → Port) : (s.mapPorts f).dirty = s.dirty := rfl
@[simp] theorem mapPorts_refresh (s : State) (f : Port → Port) : (s.mapPorts f).refresh = s.refresh := rfl
@[simp] theorem mapPorts_board (s : State) (f : Port → Port) : (s.mapPorts f).board = s.board := rfl
@[simp] theorem mapPorts_choice (s : State) (f : Port → Port) : (s.mapPorts f).choice = s.choice := rfl
@[simp] theorem mapPorts_pending (s : State) (f : Port → Port) : (s.mapPorts f).pending = s.pending := rfl

/-! ### setLine -/

@[simp] theorem setLine_clock (s : State) (l : LineNo) (x : Line) : (s.setLine l x).clock = s.clock := rfl
@[simp] theorem setLine_clockSet (s : State) (l : LineNo) (x : Line) : (s.setLine l x).clockSet = s.clockSet := rfl
@[simp] theorem setLine_pendingClock (s : State) (l : LineNo) (x : Line) : (s.setLine l x).pendingClock = s.pendingClock := rfl
@[simp] theorem setLine_day (s : State) (l : LineNo) (x : Line) : (s.setLine l x).day = s.day := rfl
@[simp] theorem setLine_openMinute (s : State) (l : LineNo) (x : Line) : (s.setLine l x).openMinute = s.openMinute := rfl
@[simp] theorem setLine_closeMinute (s : State) (l : LineNo) (x : Line) : (s.setLine l x).closeMinute = s.closeMinute := rfl
@[simp] theorem setLine_attractions (s : State) (l : LineNo) (x : Line) : (s.setLine l x).attractions = s.attractions := rfl
@[simp] theorem setLine_slots (s : State) (l : LineNo) (x : Line) : (s.setLine l x).slots = s.slots := rfl
@[simp] theorem setLine_freeQueue (s : State) (l : LineNo) (x : Line) : (s.setLine l x).freeQueue = s.freeQueue := rfl
@[simp] theorem setLine_postings (s : State) (l : LineNo) (x : Line) : (s.setLine l x).postings = s.postings := rfl
@[simp] theorem setLine_entries (s : State) (l : LineNo) (x : Line) : (s.setLine l x).entries = s.entries := rfl
@[simp] theorem setLine_dirty (s : State) (l : LineNo) (x : Line) : (s.setLine l x).dirty = s.dirty := rfl
@[simp] theorem setLine_refresh (s : State) (l : LineNo) (x : Line) : (s.setLine l x).refresh = s.refresh := rfl
@[simp] theorem setLine_board (s : State) (l : LineNo) (x : Line) : (s.setLine l x).board = s.board := rfl
@[simp] theorem setLine_ports (s : State) (l : LineNo) (x : Line) : (s.setLine l x).ports = s.ports := rfl
@[simp] theorem setLine_choice (s : State) (l : LineNo) (x : Line) : (s.setLine l x).choice = s.choice := rfl
@[simp] theorem setLine_pending (s : State) (l : LineNo) (x : Line) : (s.setLine l x).pending = s.pending := rfl

/-! ### setEntry -/

@[simp] theorem setEntry_clock (s : State) (e : EntryNo) (x : BoardEntry) : (s.setEntry e x).clock = s.clock := rfl
@[simp] theorem setEntry_clockSet (s : State) (e : EntryNo) (x : BoardEntry) : (s.setEntry e x).clockSet = s.clockSet := rfl
@[simp] theorem setEntry_pendingClock (s : State) (e : EntryNo) (x : BoardEntry) : (s.setEntry e x).pendingClock = s.pendingClock := rfl
@[simp] theorem setEntry_day (s : State) (e : EntryNo) (x : BoardEntry) : (s.setEntry e x).day = s.day := rfl
@[simp] theorem setEntry_openMinute (s : State) (e : EntryNo) (x : BoardEntry) : (s.setEntry e x).openMinute = s.openMinute := rfl
@[simp] theorem setEntry_closeMinute (s : State) (e : EntryNo) (x : BoardEntry) : (s.setEntry e x).closeMinute = s.closeMinute := rfl
@[simp] theorem setEntry_attractions (s : State) (e : EntryNo) (x : BoardEntry) : (s.setEntry e x).attractions = s.attractions := rfl
@[simp] theorem setEntry_slots (s : State) (e : EntryNo) (x : BoardEntry) : (s.setEntry e x).slots = s.slots := rfl
@[simp] theorem setEntry_freeQueue (s : State) (e : EntryNo) (x : BoardEntry) : (s.setEntry e x).freeQueue = s.freeQueue := rfl
@[simp] theorem setEntry_postings (s : State) (e : EntryNo) (x : BoardEntry) : (s.setEntry e x).postings = s.postings := rfl
@[simp] theorem setEntry_lines (s : State) (e : EntryNo) (x : BoardEntry) : (s.setEntry e x).lines = s.lines := rfl
@[simp] theorem setEntry_dirty (s : State) (e : EntryNo) (x : BoardEntry) : (s.setEntry e x).dirty = s.dirty := rfl
@[simp] theorem setEntry_refresh (s : State) (e : EntryNo) (x : BoardEntry) : (s.setEntry e x).refresh = s.refresh := rfl
@[simp] theorem setEntry_board (s : State) (e : EntryNo) (x : BoardEntry) : (s.setEntry e x).board = s.board := rfl
@[simp] theorem setEntry_ports (s : State) (e : EntryNo) (x : BoardEntry) : (s.setEntry e x).ports = s.ports := rfl
@[simp] theorem setEntry_choice (s : State) (e : EntryNo) (x : BoardEntry) : (s.setEntry e x).choice = s.choice := rfl
@[simp] theorem setEntry_pending (s : State) (e : EntryNo) (x : BoardEntry) : (s.setEntry e x).pending = s.pending := rfl

/-! ### setDirty -/

@[simp] theorem setDirty_clock (s : State) (e : EntryNo) (b : Bool) : (s.setDirty e b).clock = s.clock := rfl
@[simp] theorem setDirty_clockSet (s : State) (e : EntryNo) (b : Bool) : (s.setDirty e b).clockSet = s.clockSet := rfl
@[simp] theorem setDirty_pendingClock (s : State) (e : EntryNo) (b : Bool) : (s.setDirty e b).pendingClock = s.pendingClock := rfl
@[simp] theorem setDirty_day (s : State) (e : EntryNo) (b : Bool) : (s.setDirty e b).day = s.day := rfl
@[simp] theorem setDirty_openMinute (s : State) (e : EntryNo) (b : Bool) : (s.setDirty e b).openMinute = s.openMinute := rfl
@[simp] theorem setDirty_closeMinute (s : State) (e : EntryNo) (b : Bool) : (s.setDirty e b).closeMinute = s.closeMinute := rfl
@[simp] theorem setDirty_attractions (s : State) (e : EntryNo) (b : Bool) : (s.setDirty e b).attractions = s.attractions := rfl
@[simp] theorem setDirty_slots (s : State) (e : EntryNo) (b : Bool) : (s.setDirty e b).slots = s.slots := rfl
@[simp] theorem setDirty_freeQueue (s : State) (e : EntryNo) (b : Bool) : (s.setDirty e b).freeQueue = s.freeQueue := rfl
@[simp] theorem setDirty_postings (s : State) (e : EntryNo) (b : Bool) : (s.setDirty e b).postings = s.postings := rfl
@[simp] theorem setDirty_lines (s : State) (e : EntryNo) (b : Bool) : (s.setDirty e b).lines = s.lines := rfl
@[simp] theorem setDirty_entries (s : State) (e : EntryNo) (b : Bool) : (s.setDirty e b).entries = s.entries := rfl
@[simp] theorem setDirty_refresh (s : State) (e : EntryNo) (b : Bool) : (s.setDirty e b).refresh = s.refresh := rfl
@[simp] theorem setDirty_board (s : State) (e : EntryNo) (b : Bool) : (s.setDirty e b).board = s.board := rfl
@[simp] theorem setDirty_ports (s : State) (e : EntryNo) (b : Bool) : (s.setDirty e b).ports = s.ports := rfl
@[simp] theorem setDirty_choice (s : State) (e : EntryNo) (b : Bool) : (s.setDirty e b).choice = s.choice := rfl
@[simp] theorem setDirty_pending (s : State) (e : EntryNo) (b : Bool) : (s.setDirty e b).pending = s.pending := rfl

/-! ### freeWhere -/

@[simp] theorem freeWhere_clock (s : State) (hit : Pass → Bool) : (s.freeWhere hit).clock = s.clock := rfl
@[simp] theorem freeWhere_clockSet (s : State) (hit : Pass → Bool) : (s.freeWhere hit).clockSet = s.clockSet := rfl
@[simp] theorem freeWhere_pendingClock (s : State) (hit : Pass → Bool) : (s.freeWhere hit).pendingClock = s.pendingClock := rfl
@[simp] theorem freeWhere_day (s : State) (hit : Pass → Bool) : (s.freeWhere hit).day = s.day := rfl
@[simp] theorem freeWhere_openMinute (s : State) (hit : Pass → Bool) : (s.freeWhere hit).openMinute = s.openMinute := rfl
@[simp] theorem freeWhere_closeMinute (s : State) (hit : Pass → Bool) : (s.freeWhere hit).closeMinute = s.closeMinute := rfl
@[simp] theorem freeWhere_attractions (s : State) (hit : Pass → Bool) : (s.freeWhere hit).attractions = s.attractions := rfl
@[simp] theorem freeWhere_postings (s : State) (hit : Pass → Bool) : (s.freeWhere hit).postings = s.postings := rfl
@[simp] theorem freeWhere_lines (s : State) (hit : Pass → Bool) : (s.freeWhere hit).lines = s.lines := rfl
@[simp] theorem freeWhere_entries (s : State) (hit : Pass → Bool) : (s.freeWhere hit).entries = s.entries := rfl
@[simp] theorem freeWhere_dirty (s : State) (hit : Pass → Bool) : (s.freeWhere hit).dirty = s.dirty := rfl
@[simp] theorem freeWhere_refresh (s : State) (hit : Pass → Bool) : (s.freeWhere hit).refresh = s.refresh := rfl
@[simp] theorem freeWhere_board (s : State) (hit : Pass → Bool) : (s.freeWhere hit).board = s.board := rfl
@[simp] theorem freeWhere_ports (s : State) (hit : Pass → Bool) : (s.freeWhere hit).ports = s.ports := rfl
@[simp] theorem freeWhere_choice (s : State) (hit : Pass → Bool) : (s.freeWhere hit).choice = s.choice := rfl
@[simp] theorem freeWhere_pending (s : State) (hit : Pass → Bool) : (s.freeWhere hit).pending = s.pending := rfl

/-! ### retag -/

@[simp] theorem retag_clock (s : State) (hit : Pass → Bool) (st : PassState) : (s.retag hit st).clock = s.clock := rfl
@[simp] theorem retag_clockSet (s : State) (hit : Pass → Bool) (st : PassState) : (s.retag hit st).clockSet = s.clockSet := rfl
@[simp] theorem retag_pendingClock (s : State) (hit : Pass → Bool) (st : PassState) : (s.retag hit st).pendingClock = s.pendingClock := rfl
@[simp] theorem retag_day (s : State) (hit : Pass → Bool) (st : PassState) : (s.retag hit st).day = s.day := rfl
@[simp] theorem retag_openMinute (s : State) (hit : Pass → Bool) (st : PassState) : (s.retag hit st).openMinute = s.openMinute := rfl
@[simp] theorem retag_closeMinute (s : State) (hit : Pass → Bool) (st : PassState) : (s.retag hit st).closeMinute = s.closeMinute := rfl
@[simp] theorem retag_attractions (s : State) (hit : Pass → Bool) (st : PassState) : (s.retag hit st).attractions = s.attractions := rfl
@[simp] theorem retag_freeQueue (s : State) (hit : Pass → Bool) (st : PassState) : (s.retag hit st).freeQueue = s.freeQueue := rfl
@[simp] theorem retag_postings (s : State) (hit : Pass → Bool) (st : PassState) : (s.retag hit st).postings = s.postings := rfl
@[simp] theorem retag_lines (s : State) (hit : Pass → Bool) (st : PassState) : (s.retag hit st).lines = s.lines := rfl
@[simp] theorem retag_entries (s : State) (hit : Pass → Bool) (st : PassState) : (s.retag hit st).entries = s.entries := rfl
@[simp] theorem retag_dirty (s : State) (hit : Pass → Bool) (st : PassState) : (s.retag hit st).dirty = s.dirty := rfl
@[simp] theorem retag_refresh (s : State) (hit : Pass → Bool) (st : PassState) : (s.retag hit st).refresh = s.refresh := rfl
@[simp] theorem retag_board (s : State) (hit : Pass → Bool) (st : PassState) : (s.retag hit st).board = s.board := rfl
@[simp] theorem retag_ports (s : State) (hit : Pass → Bool) (st : PassState) : (s.retag hit st).ports = s.ports := rfl
@[simp] theorem retag_choice (s : State) (hit : Pass → Bool) (st : PassState) : (s.retag hit st).choice = s.choice := rfl
@[simp] theorem retag_pending (s : State) (hit : Pass → Bool) (st : PassState) : (s.retag hit st).pending = s.pending := rfl

/-! ### freeSlot -/

@[simp] theorem freeSlot_clock (s : State) (i : SlotNo) : (s.freeSlot i).clock = s.clock := rfl
@[simp] theorem freeSlot_clockSet (s : State) (i : SlotNo) : (s.freeSlot i).clockSet = s.clockSet := rfl
@[simp] theorem freeSlot_pendingClock (s : State) (i : SlotNo) : (s.freeSlot i).pendingClock = s.pendingClock := rfl
@[simp] theorem freeSlot_day (s : State) (i : SlotNo) : (s.freeSlot i).day = s.day := rfl
@[simp] theorem freeSlot_openMinute (s : State) (i : SlotNo) : (s.freeSlot i).openMinute = s.openMinute := rfl
@[simp] theorem freeSlot_closeMinute (s : State) (i : SlotNo) : (s.freeSlot i).closeMinute = s.closeMinute := rfl
@[simp] theorem freeSlot_attractions (s : State) (i : SlotNo) : (s.freeSlot i).attractions = s.attractions := rfl
@[simp] theorem freeSlot_postings (s : State) (i : SlotNo) : (s.freeSlot i).postings = s.postings := rfl
@[simp] theorem freeSlot_lines (s : State) (i : SlotNo) : (s.freeSlot i).lines = s.lines := rfl
@[simp] theorem freeSlot_entries (s : State) (i : SlotNo) : (s.freeSlot i).entries = s.entries := rfl
@[simp] theorem freeSlot_dirty (s : State) (i : SlotNo) : (s.freeSlot i).dirty = s.dirty := rfl
@[simp] theorem freeSlot_refresh (s : State) (i : SlotNo) : (s.freeSlot i).refresh = s.refresh := rfl
@[simp] theorem freeSlot_board (s : State) (i : SlotNo) : (s.freeSlot i).board = s.board := rfl
@[simp] theorem freeSlot_ports (s : State) (i : SlotNo) : (s.freeSlot i).ports = s.ports := rfl
@[simp] theorem freeSlot_choice (s : State) (i : SlotNo) : (s.freeSlot i).choice = s.choice := rfl
@[simp] theorem freeSlot_pending (s : State) (i : SlotNo) : (s.freeSlot i).pending = s.pending := rfl

/-! ### setPass -/

@[simp] theorem setPass_clock (s : State) (i : SlotNo) (r : Pass) : (s.setPass i r).clock = s.clock := rfl
@[simp] theorem setPass_clockSet (s : State) (i : SlotNo) (r : Pass) : (s.setPass i r).clockSet = s.clockSet := rfl
@[simp] theorem setPass_pendingClock (s : State) (i : SlotNo) (r : Pass) : (s.setPass i r).pendingClock = s.pendingClock := rfl
@[simp] theorem setPass_day (s : State) (i : SlotNo) (r : Pass) : (s.setPass i r).day = s.day := rfl
@[simp] theorem setPass_openMinute (s : State) (i : SlotNo) (r : Pass) : (s.setPass i r).openMinute = s.openMinute := rfl
@[simp] theorem setPass_closeMinute (s : State) (i : SlotNo) (r : Pass) : (s.setPass i r).closeMinute = s.closeMinute := rfl
@[simp] theorem setPass_attractions (s : State) (i : SlotNo) (r : Pass) : (s.setPass i r).attractions = s.attractions := rfl
@[simp] theorem setPass_freeQueue (s : State) (i : SlotNo) (r : Pass) : (s.setPass i r).freeQueue = s.freeQueue := rfl
@[simp] theorem setPass_postings (s : State) (i : SlotNo) (r : Pass) : (s.setPass i r).postings = s.postings := rfl
@[simp] theorem setPass_lines (s : State) (i : SlotNo) (r : Pass) : (s.setPass i r).lines = s.lines := rfl
@[simp] theorem setPass_entries (s : State) (i : SlotNo) (r : Pass) : (s.setPass i r).entries = s.entries := rfl
@[simp] theorem setPass_dirty (s : State) (i : SlotNo) (r : Pass) : (s.setPass i r).dirty = s.dirty := rfl
@[simp] theorem setPass_refresh (s : State) (i : SlotNo) (r : Pass) : (s.setPass i r).refresh = s.refresh := rfl
@[simp] theorem setPass_board (s : State) (i : SlotNo) (r : Pass) : (s.setPass i r).board = s.board := rfl
@[simp] theorem setPass_ports (s : State) (i : SlotNo) (r : Pass) : (s.setPass i r).ports = s.ports := rfl
@[simp] theorem setPass_choice (s : State) (i : SlotNo) (r : Pass) : (s.setPass i r).choice = s.choice := rfl
@[simp] theorem setPass_pending (s : State) (i : SlotNo) (r : Pass) : (s.setPass i r).pending = s.pending := rfl
/-! ## Reading after writing -/

@[simp] theorem att_setAtt_self (s : State) (a : AttrNo) (r : Attraction) : (s.setAtt a r).att a = r := by
  simp [State.att, State.setAtt]

theorem att_setAtt (s : State) (a b : AttrNo) (r : Attraction) :
    (s.setAtt a r).att b = if b = a then r else s.att b := by
  by_cases h : b = a
  · subst h
    simp
  · have : a.val ≠ b.val := fun e => h (Fin.ext e.symm)
    simp [State.att, State.setAtt, h, Vector.getElem_set_ne, this]

@[simp] theorem att_updAtt_self (s : State) (a : AttrNo) (f : Attraction → Attraction) :
    (s.updAtt a f).att a = f (s.att a) := att_setAtt_self _ _ _

theorem att_updAtt (s : State) (a b : AttrNo) (f : Attraction → Attraction) :
    (s.updAtt a f).att b = if b = a then f (s.att a) else s.att b := att_setAtt _ _ _ _

theorem att_updAtt_ne (s : State) {a b : AttrNo} (f : Attraction → Attraction) (h : b ≠ a) :
    (s.updAtt a f).att b = s.att b := by
  rw [att_updAtt, if_neg h]

@[simp] theorem att_mapAtts (s : State) (f : Attraction → Attraction) (a : AttrNo) :
    (s.mapAtts f).att a = f (s.att a) := by
  simp [State.att, State.mapAtts]

@[simp] theorem port_updPort_self (s : State) (p : PortNo) (f : Port → Port) :
    (s.updPort p f).port p = f (s.port p) := by
  simp [State.port, State.updPort]

theorem port_updPort (s : State) (p q : PortNo) (f : Port → Port) :
    (s.updPort p f).port q = if q = p then f (s.port p) else s.port q := by
  by_cases h : q = p
  · subst h
    simp
  · have : p.val ≠ q.val := fun e => h (Fin.ext e.symm)
    simp [State.port, State.updPort, h, Vector.getElem_set_ne, this]

theorem port_updPort_ne (s : State) {p q : PortNo} (f : Port → Port) (h : q ≠ p) :
    (s.updPort p f).port q = s.port q := by
  rw [port_updPort, if_neg h]

@[simp] theorem port_mapPorts (s : State) (f : Port → Port) (p : PortNo) : (s.mapPorts f).port p = f (s.port p) := by
  simp [State.port, State.mapPorts]

/-- An attraction's record depends on the table alone. -/
theorem att_congr {s t : State} (h : t.attractions = s.attractions) (a : AttrNo) : t.att a = s.att a := by
  simp [State.att, h]

/-- A port depends on the ports alone. -/
theorem port_congr {s t : State} (h : t.ports = s.ports) (p : PortNo) : t.port p = s.port p := by
  simp [State.port, h]

@[simp] theorem att_updPort (s : State) (p : PortNo) (f : Port → Port) (a : AttrNo) :
    (s.updPort p f).att a = s.att a := rfl

@[simp] theorem att_mapPorts (s : State) (f : Port → Port) (a : AttrNo) :
    (s.mapPorts f).att a = s.att a := rfl

@[simp] theorem att_setLine (s : State) (l : LineNo) (x : Line) (a : AttrNo) :
    (s.setLine l x).att a = s.att a := rfl

@[simp] theorem att_setEntry (s : State) (e : EntryNo) (x : BoardEntry) (a : AttrNo) :
    (s.setEntry e x).att a = s.att a := rfl

@[simp] theorem att_setDirty (s : State) (e : EntryNo) (b : Bool) (a : AttrNo) :
    (s.setDirty e b).att a = s.att a := rfl

@[simp] theorem att_freeWhere (s : State) (hit : Pass → Bool) (a : AttrNo) :
    (s.freeWhere hit).att a = s.att a := rfl

@[simp] theorem att_retag (s : State) (hit : Pass → Bool) (st : PassState) (a : AttrNo) :
    (s.retag hit st).att a = s.att a := rfl

@[simp] theorem att_freeSlot (s : State) (i : SlotNo) (a : AttrNo) :
    (s.freeSlot i).att a = s.att a := rfl

@[simp] theorem att_setPass (s : State) (i : SlotNo) (r : Pass) (a : AttrNo) :
    (s.setPass i r).att a = s.att a := rfl

@[simp] theorem port_setAtt (s : State) (a : AttrNo) (r : Attraction) (p : PortNo) :
    (s.setAtt a r).port p = s.port p := rfl

@[simp] theorem port_updAtt (s : State) (a : AttrNo) (f : Attraction → Attraction) (p : PortNo) :
    (s.updAtt a f).port p = s.port p := rfl

@[simp] theorem port_mapAtts (s : State) (f : Attraction → Attraction) (p : PortNo) :
    (s.mapAtts f).port p = s.port p := rfl

@[simp] theorem port_setLine (s : State) (l : LineNo) (x : Line) (p : PortNo) :
    (s.setLine l x).port p = s.port p := rfl

@[simp] theorem port_setEntry (s : State) (e : EntryNo) (x : BoardEntry) (p : PortNo) :
    (s.setEntry e x).port p = s.port p := rfl

@[simp] theorem port_setDirty (s : State) (e : EntryNo) (b : Bool) (p : PortNo) :
    (s.setDirty e b).port p = s.port p := rfl

@[simp] theorem port_freeWhere (s : State) (hit : Pass → Bool) (p : PortNo) :
    (s.freeWhere hit).port p = s.port p := rfl

@[simp] theorem port_retag (s : State) (hit : Pass → Bool) (st : PassState) (p : PortNo) :
    (s.retag hit st).port p = s.port p := rfl

@[simp] theorem port_freeSlot (s : State) (i : SlotNo) (p : PortNo) :
    (s.freeSlot i).port p = s.port p := rfl

@[simp] theorem port_setPass (s : State) (i : SlotNo) (r : Pass) (p : PortNo) :
    (s.setPass i r).port p = s.port p := rfl

end Sys2Proof.Machine
end

