-- ==== Sys2Proof/Laws/Flags.lean ====
section
/-! SUPPORT. What raising an event, following a condition and settling do to each flag and each field. -/

namespace Sys2Proof.Machine

/-! ## Event bytes -/

/-- A kind's flag is the bit of its number less one (R183). -/
theorem inMask_eq_bit (k : EventKind) (b : Byte) : k.inMask b = b.getLsbD (k.number - 1) := by
  revert b
  cases k <;> decide +kernel

theorem inMask_or (k : EventKind) (a b : Byte) : k.inMask (a ||| b) = (k.inMask a || k.inMask b) := by
  simp [inMask_eq_bit]

theorem inMask_and (k : EventKind) (a b : Byte) : k.inMask (a &&& b) = (k.inMask a && k.inMask b) := by
  simp [inMask_eq_bit]

theorem inMask_not (k : EventKind) (b : Byte) : k.inMask (~~~b) = !k.inMask b := by
  cases k <;> simp [inMask_eq_bit, EventKind.number]

theorem inMask_mask (j k : EventKind) : j.inMask k.mask = decide (j = k) := by
  cases j <;> cases k <;> decide

theorem inMask_maskIf (j k : EventKind) (b : Bool) : j.inMask (k.maskIf b) = (decide (j = k) && b) := by
  cases b
  · cases j <;> simp [EventKind.maskIf, inMask_eq_bit]
  · simp [EventKind.maskIf, inMask_mask]

theorem inMask_zero (k : EventKind) : k.inMask 0 = false := by
  cases k <;> decide

theorem inMask_levelKinds (k : EventKind) : k.inMask levelKinds = !k.edge := by
  cases k <;> decide

/-- Two event bytes with the same eight flags are the same byte. -/
theorem byte_eq_of_inMask {a b : Byte} (h : ∀ k : EventKind, k.inMask a = k.inMask b) : a = b := by
  apply BitVec.eq_of_getLsbD_eq
  intro i hi
  have hk : ∃ k : EventKind, k.number - 1 = i := by
    interval_cases i
    exacts [⟨.frame, rfl⟩, ⟨.attraction, rfl⟩, ⟨.stale, rfl⟩, ⟨.aged, rfl⟩, ⟨.window, rfl⟩, ⟨.posting, rfl⟩,
      ⟨.scan, rfl⟩, ⟨.clock, rfl⟩]
  obtain ⟨k, rfl⟩ := hk
  simpa [inMask_eq_bit] using h k

/-! ## Raising -/

@[simp] theorem has_raise (k j : EventKind) (q : Port) : (q.raise k).has j = (q.has j || decide (j = k)) := by
  simp [Port.has, Port.raise, inMask_or, inMask_mask]

@[simp] theorem raise_role (k : EventKind) (q : Port) : (q.raise k).role = q.role := rfl
@[simp] theorem raise_link (k : EventKind) (q : Port) : (q.raise k).link = q.link := rfl
@[simp] theorem raise_period (k : EventKind) (q : Port) : (q.raise k).period = q.period := rfl
@[simp] theorem raise_shadow (k : EventKind) (q : Port) : (q.raise k).shadow = q.shadow := rfl
@[simp] theorem raise_enable (k : EventKind) (q : Port) : (q.raise k).enable = q.enable := rfl
@[simp] theorem raise_level (k : EventKind) (q : Port) : (q.raise k).level = q.level := rfl
@[simp] theorem raise_changed (k : EventKind) (q : Port) : (q.raise k).changed = q.changed := rfl

/-! ## Following the conditions -/

/-- Each flag after the level-type ones have followed their conditions (R177). -/
theorem inMask_followedFlags (s : State) (q : Port) (k : EventKind) :
    k.inMask (followedFlags s q) =
      match k with
      | .stale => staleAt s q
      | .aged => anyAged s
      | .posting => nonEmpty q.changed
      | .frame => q.has .frame
      | .attraction => q.has .attraction
      | .window => q.has .window
      | .scan => q.has .scan
      | .clock => q.has .clock := by
  cases k <;>
    simp [followedFlags, inMask_or, inMask_and, inMask_not, inMask_levelKinds, inMask_maskIf, EventKind.edge, Port.has]

/-- A settled part's flags are those that follow from its conditions. -/
theorem Settled.followed {s : State} (h : Settled s) (q : PortNo) : followedFlags s (s.port q) = (s.port q).flags := by
  apply byte_eq_of_inMask
  intro k
  rw [inMask_followedFlags]
  cases k
  · rfl
  · rfl
  · exact (h.stale q).symm
  · exact (h.aged q).symm
  · rfl
  · exact (h.posting q).symm
  · rfl
  · rfl

/-! ## Settling -/

@[simp] theorem settle_clock (s : State) : (settle s).clock = s.clock := rfl
@[simp] theorem settle_clockSet (s : State) : (settle s).clockSet = s.clockSet := rfl
@[simp] theorem settle_pendingClock (s : State) : (settle s).pendingClock = s.pendingClock := rfl
@[simp] theorem settle_day (s : State) : (settle s).day = s.day := rfl
@[simp] theorem settle_openMinute (s : State) : (settle s).openMinute = s.openMinute := rfl
@[simp] theorem settle_closeMinute (s : State) : (settle s).closeMinute = s.closeMinute := rfl
@[simp] theorem settle_attractions (s : State) : (settle s).attractions = s.attractions := rfl
@[simp] theorem settle_att (s : State) (a : AttrNo) : (settle s).att a = s.att a := rfl
@[simp] theorem settle_slots (s : State) : (settle s).slots = s.slots := rfl
@[simp] theorem settle_freeQueue (s : State) : (settle s).freeQueue = s.freeQueue := rfl
@[simp] theorem settle_lines (s : State) : (settle s).lines = s.lines := rfl
@[simp] theorem settle_entries (s : State) : (settle s).entries = s.entries := rfl
@[simp] theorem settle_refresh (s : State) : (settle s).refresh = s.refresh := rfl
@[simp] theorem settle_board (s : State) : (settle s).board = s.board := rfl
@[simp] theorem settle_choice (s : State) : (settle s).choice = s.choice := rfl
@[simp] theorem settle_pending (s : State) : (settle s).pending = s.pending := rfl
@[simp] theorem settle_now (s : State) : (settle s).now = s.now := rfl
@[simp] theorem settle_o (s : State) : (settle s).o = s.o := rfl
@[simp] theorem settle_z (s : State) : (settle s).z = s.z := rfl

theorem settle_postings (s : State) (a : AttrNo) : (settle s).postings[a] = postingOf (s.att a) := by
  simp [settle, followFlags, refreshPostings, State.att]

@[simp] theorem settle_postings_val (s : State) (a : AttrNo) : (settle s).postings[a.val] = postingOf (s.att a) :=
  settle_postings s a

/-- Which postings have moved away from their sources. -/
theorem movedPostings_get (s : State) (a : AttrNo) :
    (movedPostings s)[a] = decide (s.postings[a] ≠ postingOf (s.att a)) := by
  simp only [movedPostings, Fin.getElem_fin, getElem_zipV, State.att]
  exact decide_eq_decide.mpr Iff.rfl

/-- A port with a change set and event flags of its own. -/
def Port.published (q : Port) (changed : Vector Bool Config.attractions) (flags : Byte) : Port :=
  { q with changed := changed, flags := flags }

/-- A port after settling: a change set joined by the moved postings, and the flags that follow. -/
theorem settle_port (s : State) (q : PortNo) :
    (settle s).port q = (s.port q).published (zipV (· || ·) (s.port q).changed (movedPostings s))
      (followedFlags (refreshPostings s)
        { s.port q with changed := zipV (· || ·) (s.port q).changed (movedPostings s) }) := by
  simp [settle, followFlags, refreshPostings, State.port, State.mapPorts, Port.published]

@[simp] theorem settle_port_role (s : State) (q : PortNo) : ((settle s).port q).role = (s.port q).role := by
  rw [settle_port]; rfl
@[simp] theorem settle_port_link (s : State) (q : PortNo) : ((settle s).port q).link = (s.port q).link := by
  rw [settle_port]; rfl
@[simp] theorem settle_port_period (s : State) (q : PortNo) : ((settle s).port q).period = (s.port q).period := by
  rw [settle_port]; rfl
@[simp] theorem settle_port_shadow (s : State) (q : PortNo) : ((settle s).port q).shadow = (s.port q).shadow := by
  rw [settle_port]; rfl
@[simp] theorem settle_port_enable (s : State) (q : PortNo) : ((settle s).port q).enable = (s.port q).enable := by
  rw [settle_port]; rfl
@[simp] theorem settle_port_level (s : State) (q : PortNo) : ((settle s).port q).level = (s.port q).level := by
  rw [settle_port]; rfl

theorem settle_port_changed (s : State) (q : PortNo) (a : AttrNo) :
    ((settle s).port q).changed[a] = ((s.port q).changed[a] || decide (s.postings[a] ≠ postingOf (s.att a))) := by
  rw [settle_port, ← movedPostings_get]
  simp [Port.published]

/-- Settling leaves every edge-type flag as it is. -/
theorem settle_has_edge (s : State) (q : PortNo) (k : EventKind) (hk : k.edge = true) :
    ((settle s).port q).has k = (s.port q).has k := by
  rw [settle_port, Port.has]
  simp only [Port.published]
  rw [inMask_followedFlags]
  cases k <;> first | rfl | simp [EventKind.edge] at hk

theorem settle_dirty (s : State) (e : EntryNo) :
    (settle s).dirty[e] =
      (s.dirty[e] || match s.entries[e].binding with
        | some b => decide (s.postings[b.attraction] ≠ postingOf (s.att b.attraction))
        | none => false) := by
  simp only [settle, followFlags, refreshPostings, State.mapPorts, Fin.getElem_fin, getElem_zipV, BoardEntry.names]
  cases s.entries[e.val].binding with
  | none => rfl
  | some b => exact congrArg _ (movedPostings_get s b.attraction)

/-- Settling settles (R134, R177). -/
theorem settled_settle (s : State) : Settled (settle s) where
  postings a := settle_postings s a
  stale q := by
    rw [settle_port, Port.has]
    simp only [Port.published]
    rw [inMask_followedFlags]
    rfl
  aged q := by
    rw [settle_port, Port.has]
    simp only [Port.published]
    rw [inMask_followedFlags]
    rfl
  posting q := by
    rw [settle_port, Port.has]
    simp only [Port.published]
    rw [inMask_followedFlags]

theorem state_eq_of_ports {s t : State} (h : t = { s with ports := t.ports }) (hp : ∀ q, t.port q = s.port q) :
    t = s := by
  have : t.ports = s.ports := by
    ext1 i hi
    exact hp ⟨i, hi⟩
  rw [h, this]

/-- Settling changes nothing of a settled part. -/
theorem settle_of_settled {s : State} (h : Settled s) : settle s = s := by
  have hm : ∀ a : AttrNo, (movedPostings s)[a] = false := fun a => by
    rw [movedPostings_get, h.postings a]
    simp
  have hc : ∀ q, zipV (· || ·) (s.port q).changed (movedPostings s) = (s.port q).changed := fun q => by
    ext1 i hi
    have := hm ⟨i, hi⟩
    simp only [Fin.getElem_fin] at this
    simp [this]
  have hpo : mapV postingOf s.attractions = s.postings := by
    ext1 i hi
    have := h.postings ⟨i, hi⟩
    simp only [Fin.getElem_fin] at this
    simp [this, State.att]
  have hd : zipV (fun d e => d || e.names (movedPostings s)) s.dirty s.entries = s.dirty := by
    ext1 i hi
    have hx : ∀ e : BoardEntry, e.names (movedPostings s) = false := fun e => by
      unfold BoardEntry.names
      cases e.binding with
      | none => rfl
      | some b => exact hm b.attraction
    simp [hx]
  apply state_eq_of_ports
  · simp only [settle, followFlags, refreshPostings, State.mapPorts, hpo, hd]
  · intro q
    rw [settle_port, hc]
    have hf : followedFlags (refreshPostings s) (s.port q) = (s.port q).flags := h.followed q
    simp only [Port.published]
    exact congrArg (fun f => { s.port q with flags := f }) hf

/-- What settling publishes, from a state that differs from a settled one in no posting, change set or dirty place. -/
theorem publishes_settle {s t : State} (hp : t.postings = s.postings)
    (hc : ∀ q, (t.port q).changed = (s.port q).changed) (hd : t.dirty = s.dirty)
    (he : t.entries = s.entries) : Publishes s (settle t) where
  settled := settled_settle t
  changed q a := by
    rw [settle_port_changed, hc, postingMoved, settle_postings, hp]
    simp only [ne_eq, eq_comm]
  dirty e := by
    rw [settle_dirty, hd, he]
    congr 1
    cases s.entries[e].binding with
    | none => rfl
    | some b =>
      simp only [postingMoved, settle_postings, hp]
      simp only [ne_eq, eq_comm]

end Sys2Proof.Machine
end

