-- ==== Sys2Proof/Laws/Requests.lean ====
section
/-! SUPPORT. What carrying out a request in hand answers, and the fields a reply leaves. -/

namespace Sys2Proof.Machine

/-! ## The reply -/

@[simp] theorem withReply_clock (s : State) (p : PortNo) (r : List Byte) : (s.withReply p r).clock = s.clock := rfl
@[simp] theorem withReply_clockSet (s : State) (p : PortNo) (r : List Byte) : (s.withReply p r).clockSet = s.clockSet := rfl
@[simp] theorem withReply_pendingClock (s : State) (p : PortNo) (r : List Byte) :
    (s.withReply p r).pendingClock = s.pendingClock := rfl
@[simp] theorem withReply_day (s : State) (p : PortNo) (r : List Byte) : (s.withReply p r).day = s.day := rfl
@[simp] theorem withReply_openMinute (s : State) (p : PortNo) (r : List Byte) :
    (s.withReply p r).openMinute = s.openMinute := rfl
@[simp] theorem withReply_closeMinute (s : State) (p : PortNo) (r : List Byte) :
    (s.withReply p r).closeMinute = s.closeMinute := rfl
@[simp] theorem withReply_attractions (s : State) (p : PortNo) (r : List Byte) :
    (s.withReply p r).attractions = s.attractions := rfl
@[simp] theorem withReply_att (s : State) (p : PortNo) (r : List Byte) (a : AttrNo) :
    (s.withReply p r).att a = s.att a := rfl
@[simp] theorem withReply_slots (s : State) (p : PortNo) (r : List Byte) : (s.withReply p r).slots = s.slots := rfl
@[simp] theorem withReply_freeQueue (s : State) (p : PortNo) (r : List Byte) :
    (s.withReply p r).freeQueue = s.freeQueue := rfl
@[simp] theorem withReply_postings (s : State) (p : PortNo) (r : List Byte) :
    (s.withReply p r).postings = s.postings := rfl
@[simp] theorem withReply_lines (s : State) (p : PortNo) (r : List Byte) : (s.withReply p r).lines = s.lines := rfl
@[simp] theorem withReply_entries (s : State) (p : PortNo) (r : List Byte) : (s.withReply p r).entries = s.entries := rfl
@[simp] theorem withReply_dirty (s : State) (p : PortNo) (r : List Byte) : (s.withReply p r).dirty = s.dirty := rfl
@[simp] theorem withReply_refresh (s : State) (p : PortNo) (r : List Byte) : (s.withReply p r).refresh = s.refresh := rfl
@[simp] theorem withReply_board (s : State) (p : PortNo) (r : List Byte) : (s.withReply p r).board = s.board := rfl
@[simp] theorem withReply_choice (s : State) (p : PortNo) (r : List Byte) : (s.withReply p r).choice = s.choice := rfl
@[simp] theorem withReply_pending (s : State) (p : PortNo) (r : List Byte) : (s.withReply p r).pending = s.pending := rfl

theorem withReply_port (s : State) (p q : PortNo) (r : List Byte) :
    (s.withReply p r).port q = if q = p then { s.port p with link := .ready r } else s.port q :=
  port_updPort s p q _

@[simp] theorem withReply_port_self (s : State) (p : PortNo) (r : List Byte) :
    (s.withReply p r).port p = { s.port p with link := .ready r } := by
  simp [withReply_port]

/-- A reply moves a link and no other field of a port. -/
theorem withReply_likeBefore (s : State) (p q : PortNo) (r : List Byte) :
    (s.port q).LikeBefore ((s.withReply p r).port q) := by
  rw [withReply_port]
  split
  · next h => subst h; exact ⟨rfl, rfl, rfl, rfl, rfl⟩
  · exact ⟨rfl, rfl, rfl, rfl, rfl⟩

@[simp] theorem withReply_flags (s : State) (p q : PortNo) (r : List Byte) :
    ((s.withReply p r).port q).flags = (s.port q).flags := by
  rw [withReply_port]
  split
  · next h => subst h; rfl
  · rfl

@[simp] theorem withReply_changed (s : State) (p q : PortNo) (r : List Byte) :
    ((s.withReply p r).port q).changed = (s.port q).changed := by
  rw [withReply_port]
  split
  · next h => subst h; rfl
  · rfl

@[simp] theorem withReply_shadow (s : State) (p q : PortNo) (r : List Byte) :
    ((s.withReply p r).port q).shadow = (s.port q).shadow := (withReply_likeBefore s p q r).shadow

@[simp] theorem withReply_role (s : State) (p q : PortNo) (r : List Byte) :
    ((s.withReply p r).port q).role = (s.port q).role := (withReply_likeBefore s p q r).role

@[simp] theorem withReply_has (s : State) (p q : PortNo) (r : List Byte) (k : EventKind) :
    ((s.withReply p r).port q).has k = (s.port q).has k := by
  simp [Port.has]

/-- A settled part stays settled under a reply. -/
theorem Settled.withReply {s : State} (h : Settled s) (p : PortNo) (r : List Byte) : Settled (s.withReply p r) where
  postings := h.postings
  stale q := by
    rw [withReply_has, h.stale q]
    simp [staleAt]
  aged q := by
    rw [withReply_has, h.aged q]
    simp [anyAged]
  posting q := by
    rw [withReply_has, h.posting q]
    simp

/-- A reply publishes no more than the state it is built on. -/
theorem Publishes.withReply {s t : State} (h : Publishes s t) (p : PortNo) (r : List Byte) :
    Publishes s (t.withReply p r) where
  settled := h.settled.withReply p r
  changed q a := by
    rw [withReply_changed]
    exact h.changed q a
  dirty := h.dirty

/-! ## Frames -/

/-- The arguments of an opened frame are the bytes behind its length byte (R165). -/
theorem argAt_of_openFrame {request args : List Byte} (h : openFrame request = some args) (i : Nat) :
    argAt request i = args[i]?.map BitVec.toNat := by
  match request, h with
  | kind :: n :: rest, h =>
    simp only [openFrame] at h
    split at h
    · cases h
    · split at h
      · cases h
      · split at h
        · obtain rfl : rest.take n.toNat = args := by simpa using h
          simp only [argAt, List.getD_cons_succ, List.getD_cons_zero, List.getElem?_cons_succ, List.getElem?_take]
          split <;> rfl
        · cases h
  | [], h => simp [openFrame] at h
  | [_], h => simp [openFrame] at h

/-- A frame that opens starts with a kind byte. -/
theorem headD_of_head? {request : List Byte} {k : Byte} (h : request.head? = some k) : request.headD 0 = k := by
  cases request with
  | nil => simp at h
  | cons x xs => simpa using h

/-! ## Carrying out -/

/-- Carrying out the request in hand under the row that its kind and arguments name: the role, then the row's own steps
(R164, R167). -/
theorem carryOut_sent {s : State} {p : PortNo} {kind : Byte} {args : List Byte} {row : Row} (body : Body)
    (h : Sent s p kind args)
    (hrow : ∀ request : List Byte, request.headD 0 = kind → (∀ i, argAt request i = args[i]?.map BitVec.toNat) →
      rowOf request = row)
    (hknown : row ≠ .unknownRequest) (hecho : kind ≠ 0xFE#8 ∧ kind ≠ 0xFF#8) :
    carryOut row body p s =
      if permits row (s.port p).role then
        match body p args s with
        | .error r => s.withReply p (replyFrame kind r.code.value r.data)
        | .ok (t, data) => (settle t).withReply p (replyFrame kind ResultCode.done.value data)
      else s.withReply p (replyFrame kind ResultCode.notPermitted.value []) := by
  obtain ⟨request, hl, hh, ho⟩ := h
  have hk := headD_of_head? hh
  have he : kindEcho request = kind := by
    unfold kindEcho
    rw [hk]
    simp [hecho.1, hecho.2]
  unfold carryOut
  rw [hl]
  simp only [hrow request hk (argAt_of_openFrame ho), if_true, judge, ho, if_neg hknown]
  split
  · cases body p args s with
    | error r => simp [answered, he]
    | ok x => simp [answered, he]
  · simp [reject, answered, he]

/-- A port with no request in hand carries nothing out (log 3). -/
theorem carryOut_idle {s : State} {p : PortNo} (row : Row) (body : Body)
    (h : ∀ request, (s.port p).link ≠ .working request) : carryOut row body p s = s := by
  unfold carryOut
  split
  · next hl => exact absurd hl (h _)
  · rfl
  · rfl

/-! ## Which row a request falls under -/

/-- A row that has its kind byte to itself. -/
def Row.alone : Row → Bool
  | .setStateOperating | .setStateDown | .setStateClosed | .bind | .unbind | .inquire | .boardSet | .boardSetClear
  | .issueEarliest | .issueAt | .unknownRequest => false
  | _ => true

/-- A kind byte with one row names that row. -/
theorem rowOf_alone {row : Row} {request : List Byte} (ha : row.alone = true) (h : request.headD 0 = row.kind) :
    rowOf request = row := by
  unfold rowOf
  rw [h]
  cases row <;> first | rfl | simp [Row.alone] at ha

/-- SET_STATE falls under the row of the state wanted. -/
theorem rowOf_setState {request : List Byte} (h : request.headD 0 = 0x16) :
    rowOf request =
      if argAt request 1 = some 1 then .setStateClosed else if argAt request 1 = some 3 then .setStateDown
      else .setStateOperating := by
  unfold rowOf
  rw [h]
  rfl

/-- BIND_LINE falls under the row of its operation. -/
theorem rowOf_bindLine {request : List Byte} (h : request.headD 0 = 0x17) :
    rowOf request =
      if argAt request 1 = some 1 then .unbind else if argAt request 1 = some 2 then .inquire else .bind := by
  unfold rowOf
  rw [h]
  rfl

/-- BOARD_SET falls under the row of its valid byte. -/
theorem rowOf_boardSet {request : List Byte} (h : request.headD 0 = 0x18) :
    rowOf request = if argAt request 1 = some 0 then .boardSetClear else .boardSet := by
  unfold rowOf
  rw [h]
  rfl

/-- ISSUE falls under the row of its mode. -/
theorem rowOf_issue {request : List Byte} (h : request.headD 0 = 0x30) :
    rowOf request = if argAt request 0 = some 1 then .issueAt else .issueEarliest := by
  unfold rowOf
  rw [h]
  rfl

/-- The requests whose kind byte and arguments name a row. -/
def Names (row : Row) (args : List Byte) : Prop :=
  ∀ request : List Byte, request.headD 0 = row.kind → (∀ i, argAt request i = args[i]?.map BitVec.toNat) →
    rowOf request = row

theorem names_alone {row : Row} (ha : row.alone = true) (args : List Byte) : Names row args :=
  fun _ h _ => rowOf_alone ha h

theorem Row.kind_ne_marker {row : Row} (h : row ≠ .unknownRequest) : row.kind ≠ 0xFE#8 ∧ row.kind ≠ 0xFF#8 := by
  cases row <;> first | exact absurd rfl h | decide

/-- A request whose role is not permitted is refused. -/
theorem carryOut_notPermitted {s : State} {p : PortNo} {args : List Byte} {row : Row} (body : Body)
    (h : Sent s p row.kind args) (hrow : Names row args) (hknown : row ≠ .unknownRequest)
    (hr : permits row (s.port p).role = false) :
    carryOut row body p s = s.withReply p (replyFrame row.kind ResultCode.notPermitted.value []) := by
  rw [carryOut_sent body h hrow hknown (Row.kind_ne_marker hknown), hr]
  rfl

/-- A permitted request that its row refuses has its refusal as reply and changes nothing else (R167). -/
theorem carryOut_refused {s : State} {p : PortNo} {args : List Byte} {row : Row} {body : Body} {c : ResultCode}
    {data : List Byte} (h : Sent s p row.kind args) (hrow : Names row args) (hknown : row ≠ .unknownRequest)
    (hr : permits row (s.port p).role = true) (hb : body p args s = .error ⟨c, data⟩) :
    carryOut row body p s = s.withReply p (replyFrame row.kind c.value data) := by
  rw [carryOut_sent body h hrow hknown (Row.kind_ne_marker hknown), hr, hb]
  rfl

/-- A permitted request that its row accepts has its effect, settled, and its DONE reply. -/
theorem carryOut_accepted {s t : State} {p : PortNo} {args : List Byte} {row : Row} {body : Body} {data : List Byte}
    (h : Sent s p row.kind args) (hrow : Names row args) (hknown : row ≠ .unknownRequest)
    (hr : permits row (s.port p).role = true) (hb : body p args s = .ok (t, data)) :
    carryOut row body p s = (settle t).withReply p (replyFrame row.kind ResultCode.done.value data) := by
  rw [carryOut_sent body h hrow hknown (Row.kind_ne_marker hknown), hr, hb]
  rfl

/-! ## Settled states -/

/-- Whether some attraction is OPERATING and AGED, said of its record. -/
theorem anyAged_iff (s : State) : anyAged s = true ↔ ∃ a, (s.att a).state = .operating ∧ (s.att a).aged = true := by
  simp only [anyAged, List.any_eq_true, State.att, Bool.and_eq_true, decide_eq_true_eq]
  constructor
  · rintro ⟨r, hr, h1, h2⟩
    obtain ⟨i, hi, rfl⟩ := List.mem_iff_getElem.mp hr
    exact ⟨⟨i, by simpa using hi⟩, by simpa using h1, by simpa using h2⟩
  · rintro ⟨a, h1, h2⟩
    exact ⟨s.attractions[a], by simp, h1, h2⟩

/-- What a posting shows of a record. -/
theorem postingOf_eq_iff (r x : Attraction) :
    postingOf r = postingOf x ↔ r.state = x.state ∧ (x.state = .operating →
      r.posted = x.posted ∧ r.targetOver = x.targetOver ∧ r.aged = x.aged ∧ r.offer = x.offer) := by
  simp only [postingOf, Posting.mk.injEq]
  constructor
  · rintro ⟨h1, h2⟩
    refine ⟨h1, fun h => ?_⟩
    simpa [h1, h] using h2
  · rintro ⟨h1, h2⟩
    refine ⟨h1, ?_⟩
    by_cases h : x.state = .operating
    · obtain ⟨h3, h4, h5, h6⟩ := h2 h
      simp [h1, h, h3, h4, h5, h6]
    · simp [h1, h]

/-- A change of attractions that moves no posting and no generation leaves a settled part settled. -/
theorem Settled.congr {s t : State} (h : Settled s) (hp : t.ports = s.ports) (hpo : t.postings = s.postings)
    (ha : ∀ a, postingOf (t.att a) = postingOf (s.att a)) (hg : ∀ a, (t.att a).generation = (s.att a).generation) :
    Settled t where
  postings a := by rw [hpo, h.postings a, ha a]
  stale q := by
    rw [port_congr hp, h.stale q]
    simp only [staleAt]
    cases (s.port q).shadow with
    | none => rfl
    | some x => simp [hg]
  aged q := by
    rw [port_congr hp, h.aged q, Bool.eq_iff_iff, anyAged_iff, anyAged_iff]
    have key := fun a => (postingOf_eq_iff _ _).mp (ha a)
    constructor
    · rintro ⟨a, h1, h2⟩
      exact ⟨a, (key a).1.trans h1, ((key a).2 h1).2.2.1.trans h2⟩
    · rintro ⟨a, h1, h2⟩
      have h3 := (key a).1.symm.trans h1
      exact ⟨a, h3, ((key a).2 h3).2.2.1.symm.trans h2⟩
  posting q := by rw [port_congr hp, h.posting q]

/-- A settled part stays settled while its attractions, postings and ports stay. -/
theorem Settled.same {s t : State} (h : Settled s) (hp : t.ports = s.ports) (hpo : t.postings = s.postings)
    (ha : t.attractions = s.attractions) : Settled t :=
  h.congr hp hpo (fun a => by rw [att_congr ha]) (fun a => by rw [att_congr ha])

/-- One record's change that moves neither its posting nor its generation leaves a settled part settled. -/
theorem Settled.setAtt {s : State} (h : Settled s) (a : AttrNo) (r : Attraction) (hp : postingOf r = postingOf (s.att a))
    (hg : r.generation = (s.att a).generation) : Settled (s.setAtt a r) := by
  refine h.congr rfl rfl (fun b => ?_) (fun b => ?_)
  · by_cases hb : b = a
    · subst hb
      simpa using hp
    · simp [att_setAtt, hb]
  · by_cases hb : b = a
    · subst hb
      simpa using hg
    · simp [att_setAtt, hb]

@[simp] theorem setAtt_self (s : State) (a : AttrNo) : s.setAtt a (s.att a) = s := by
  have h : s.attractions.set a (s.att a) = s.attractions := by simp [State.att]
  unfold State.setAtt
  rw [h]

/-- A change of a record that leaves it as it is leaves the state as it is. -/
theorem updAtt_self {s : State} {a : AttrNo} {f : Attraction → Attraction} (h : f (s.att a) = s.att a) :
    s.updAtt a f = s := by
  rw [State.updAtt, h, setAtt_self]

end Sys2Proof.Machine
end

