-- ==== Sys2Proof/Laws/Operands.lean ====
section
/-! SUPPORT. What the argument bytes of a request read as, and what BOARD_TX and PDO show. -/

namespace Sys2Proof.Machine

@[simp] theorem tx_idle (n : Nat) : Board.tx .idle n = true := rfl
@[simp] theorem tx_resynchronising (n : Nat) : Board.tx .resynchronising n = true := rfl
@[simp] theorem tx_sending (f : SignFrame) (passEnd : Bool) (n : Nat) :
    Board.tx (.sending f passEnd) n = f.waveform.getD n true := rfl

@[simp] theorem pdo_released {q : Port} (h : q.period = none) (n : Nat) : q.pdo n = none := by
  simp [Port.pdo, h]

@[simp] theorem pdo_driven {q : Port} {x : Period} (h : q.period = some x) (n : Nat) : q.pdo n = some (x.pdo n) := by
  simp [Port.pdo, h]

@[simp] theorem pdo_port (s : State) (p : PortNo) (n : Nat) : (s.port p).pdo n = s.pdo p n := rfl

theorem bitsOfBytes_getElem? (bs : List Byte) (n : Nat) :
    (bitsOfBytes bs)[n]? = bs[n / 8]?.map fun b => b.getLsbD (7 - n % 8) := by
  induction bs generalizing n with
  | nil => simp [bitsOfBytes]
  | cons b bs ih =>
    have hl : (bitsOfByte b).length = 8 := by simp [bitsOfByte]
    have hc : bitsOfBytes (b :: bs) = bitsOfByte b ++ bitsOfBytes bs := rfl
    rw [hc]
    by_cases h : n < 8
    · rw [List.getElem?_append_left (by omega), Nat.div_eq_of_lt h, Nat.mod_eq_of_lt h]
      simp [bitsOfByte, h]
    · rw [List.getElem?_append_right (by omega), ih, hl, show n / 8 = (n - 8) / 8 + 1 by omega,
        show n % 8 = (n - 8) % 8 by omega, List.getElem?_cons_succ]

/-- PDO shows the bits of the bytes that the period shifts out, in their order (R158, R160). -/
theorem bits_shifted (x : Period) {n k : Nat} (h : n < 8 * k) : (bitsOfBytes (x.shifted k))[n]? = some (x.pdo n) := by
  rw [bitsOfBytes_getElem?]
  by_cases hn : n / 8 < x.out.length
  · simp [Period.shifted, Period.pdo, List.getElem?_append_left, List.getD, hn, show n / 8 < k by omega]
  · rw [Period.shifted, List.getElem?_append_right (by simp; omega)]
    simp [Period.pdo, List.getD, hn, show n / 8 - min k x.out.length < k - x.out.length by omega]

theorem toNat_byte (n : Nat) : (byte n).toNat = n % 256 := by
  simp [byte]

theorem toNat_byte_lt {n : Nat} (h : n < 256) : (byte n).toNat = n := by
  rw [toNat_byte, Nat.mod_eq_of_lt h]

@[simp] theorem byte_toNat (b : Byte) : byte b.toNat = b := by
  simp [byte]

@[simp] theorem attrOf_byte (a : AttrNo) : attrOf (byte a.val) = some a := by
  have h : a.val < 48 := a.isLt
  simp [attrOf, toNat_byte_lt (show a.val < 256 by omega), h]

@[simp] theorem lineOf_byte (l : LineNo) : lineOf (byte l.val) = some l := by
  have h : l.val < 16 := l.isLt
  simp [lineOf, toNat_byte_lt (show l.val < 256 by omega), h]

@[simp] theorem entryOf_byte (e : EntryNo) : entryOf (byte e.val) = some e := by
  have h : e.val < 64 := e.isLt
  simp [entryOf, toNat_byte_lt (show e.val < 256 by omega), h]

theorem attrOf_none {b : Byte} (h : 47 < b.toNat) : attrOf b = none := by
  simp only [attrOf, Config.attractions]
  rw [dif_neg (by omega)]

theorem lineOf_none {b : Byte} (h : 15 < b.toNat) : lineOf b = none := by
  simp only [lineOf, Config.lines]
  rw [dif_neg (by omega)]

theorem entryOf_none {b : Byte} (h : 63 < b.toNat) : entryOf b = none := by
  simp only [entryOf, Config.entries]
  rw [dif_neg (by omega)]

@[simp] theorem kindOf_code (k : LineKind) : kindOf (byte k.code) = some k := by
  cases k <;> rfl

@[simp] theorem edgeOf_code (e : Edge) : edgeOf (byte e.code) = some e := by
  cases e <;> rfl

@[simp] theorem contentOf_code (c : Content) : contentOf (byte c.code) = some c := by
  cases c <;> rfl

theorem kindOf_none {b : Byte} (h : 1 < b.toNat) : kindOf b = none := by
  unfold kindOf
  split <;> first | rfl | omega

theorem edgeOf_none {b : Byte} (h : 2 < b.toNat) : edgeOf b = none := by
  unfold edgeOf
  split <;> first | rfl | omega

theorem contentOf_none {b : Byte} (h : 1 < b.toNat) : contentOf b = none := by
  unfold contentOf
  split <;> first | rfl | omega

/-- Two argument bytes survive the number they form. -/
theorem be16_u16 (hi lo : Byte) : be16 (u16 hi lo) = [hi, lo] := by
  have h : (256 * hi.toNat + lo.toNat) / 256 = hi.toNat := by
    have := lo.isLt
    omega
  have h2 : byte (256 * hi.toNat + lo.toNat) = lo := by
    apply BitVec.eq_of_toNat_eq
    rw [toNat_byte]
    have := lo.isLt
    omega
  simp [be16, u16, h, h2]

theorem u16_le (hi lo : Byte) : u16 hi lo ≤ 65535 := by
  have := hi.isLt
  have := lo.isLt
  unfold u16
  omega

end Sys2Proof.Machine
end

