-- ==== Sys2Proof/Laws/Effects.lean ====
section
/-! SUPPORT. From the state a request's row hands over to what its command carries out. -/

namespace Sys2Proof.Machine

theorem Port.LikeBefore.rfl {q : Port} : q.LikeBefore q := ⟨Eq.refl _, Eq.refl _, Eq.refl _, Eq.refl _, Eq.refl _⟩

/-- A port keeps all but its event flags. -/
structure Port.OnlyFlags (q r : Port) : Prop where
  like : q.LikeBefore r
  link : r.link = q.link
  changed : r.changed = q.changed

theorem Port.OnlyFlags.rfl {q : Port} : q.OnlyFlags q := ⟨.rfl, Eq.refl _, Eq.refl _⟩

theorem Port.onlyFlags_raise (q : Port) (k : EventKind) : q.OnlyFlags (q.raise k) :=
  ⟨⟨Eq.refl _, Eq.refl _, Eq.refl _, Eq.refl _, Eq.refl _⟩, Eq.refl _, Eq.refl _⟩

theorem settle_withReply_answers {s u : State} {p : PortNo} {kind : Byte} {data : List Byte}
    (hp : ∀ q, (s.port q).OnlyFlags (u.port q)) :
    Answers s ((settle u).withReply p (replyFrame kind ResultCode.done.value data)) p kind data where
  reply := by simp
  others q hq := by
    rw [withReply_port, if_neg hq, settle_port_link, (hp q).link]
  ports q := by
    have h := withReply_likeBefore (settle u) p q (replyFrame kind ResultCode.done.value data)
    exact ⟨h.role.trans ((settle_port_role u q).trans (hp q).like.role),
      h.period.trans ((settle_port_period u q).trans (hp q).like.period),
      h.shadow.trans ((settle_port_shadow u q).trans (hp q).like.shadow),
      h.enable.trans ((settle_port_enable u q).trans (hp q).like.enable),
      h.level.trans ((settle_port_level u q).trans (hp q).like.level)⟩

/-- The parts settling may touch. -/
def settlingParts : List Part := [.attractions, .postings, .dirty, .ports]

/-- An accepted request carries out what its row's state holds, settled and answered. -/
theorem carries_settle {i : Instr} {s u : State} {p : PortNo} {kind : Byte} {data : List Byte} {touched : List Part}
    {raised : PortNo → EventKind → Bool} {effect : State → Prop}
    (hx : exec i s = .next ((settle u).withReply p (replyFrame kind ResultCode.done.value data)))
    (hpo : u.postings = s.postings) (hd : u.dirty = s.dirty) (he : u.entries = s.entries)
    (hp : ∀ q, (s.port q).OnlyFlags (u.port q)) (hr : Raises s u raised)
    (hk : KeepsBut ([.attractions, .postings, .dirty, .ports] ++ touched) s u)
    (heff : effect ((settle u).withReply p (replyFrame kind ResultCode.done.value data))) :
    Carries i s p kind data touched raised effect := by
  refine ⟨_, hx, settle_withReply_answers hp,
    (publishes_settle hpo (fun q => (hp q).changed) hd he).withReply p _, ?_, ?_, heff⟩
  · intro q k hkk
    rw [withReply_has, settle_has_edge u q k hkk]
    exact hr q k hkk
  · intro x hx
    have h := hk x hx
    cases x <;> first | exact h | simp at hx

@[simp] theorem Part.same_rfl (x : Part) (s : State) : x.same s s := by
  cases x <;> simp [Part.same]

end Sys2Proof.Machine
end

