-- ==== Sys2Proof/Laws/Operations.lean ====
section
/-! SUPPORT. What each shared operation leaves as it is, and what it writes. -/

namespace Sys2Proof.Machine

/-! ## Fields kept -/

/-! ### raiseAll -/

@[simp] theorem raiseAll_clock (k : EventKind) (s : State) :
    (raiseAll k s).clock = s.clock := rfl
@[simp] theorem raiseAll_clockSet (k : EventKind) (s : State) :
    (raiseAll k s).clockSet = s.clockSet := rfl
@[simp] theorem raiseAll_pendingClock (k : EventKind) (s : State) :
    (raiseAll k s).pendingClock = s.pendingClock := rfl
@[simp] theorem raiseAll_day (k : EventKind) (s : State) :
    (raiseAll k s).day = s.day := rfl
@[simp] theorem raiseAll_openMinute (k : EventKind) (s : State) :
    (raiseAll k s).openMinute = s.openMinute := rfl
@[simp] theorem raiseAll_closeMinute (k : EventKind) (s : State) :
    (raiseAll k s).closeMinute = s.closeMinute := rfl
@[simp] theorem raiseAll_attractions (k : EventKind) (s : State) :
    (raiseAll k s).attractions = s.attractions := rfl
@[simp] theorem raiseAll_slots (k : EventKind) (s : State) :
    (raiseAll k s).slots = s.slots := rfl
@[simp] theorem raiseAll_freeQueue (k : EventKind) (s : State) :
    (raiseAll k s).freeQueue = s.freeQueue := rfl
@[simp] theorem raiseAll_postings (k : EventKind) (s : State) :
    (raiseAll k s).postings = s.postings := rfl
@[simp] theorem raiseAll_lines (k : EventKind) (s : State) :
    (raiseAll k s).lines = s.lines := rfl
@[simp] theorem raiseAll_entries (k : EventKind) (s : State) :
    (raiseAll k s).entries = s.entries := rfl
@[simp] theorem raiseAll_dirty (k : EventKind) (s : State) :
    (raiseAll k s).dirty = s.dirty := rfl
@[simp] theorem raiseAll_refresh (k : EventKind) (s : State) :
    (raiseAll k s).refresh = s.refresh := rfl
@[simp] theorem raiseAll_board (k : EventKind) (s : State) :
    (raiseAll k s).board = s.board := rfl
@[simp] theorem raiseAll_choice (k : EventKind) (s : State) :
    (raiseAll k s).choice = s.choice := rfl
@[simp] theorem raiseAll_pending (k : EventKind) (s : State) :
    (raiseAll k s).pending = s.pending := rfl
@[simp] theorem raiseAll_att (k : EventKind) (s : State) (b : AttrNo) :
    (raiseAll k s).att b = s.att b := att_congr (raiseAll_attractions k s) b

/-! ### raiseAllIf -/

@[simp] theorem raiseAllIf_clock (b : Bool) (k : EventKind) (s : State) :
    (raiseAllIf b k s).clock = s.clock := by cases b <;> rfl
@[simp] theorem raiseAllIf_clockSet (b : Bool) (k : EventKind) (s : State) :
    (raiseAllIf b k s).clockSet = s.clockSet := by cases b <;> rfl
@[simp] theorem raiseAllIf_pendingClock (b : Bool) (k : EventKind) (s : State) :
    (raiseAllIf b k s).pendingClock = s.pendingClock := by cases b <;> rfl
@[simp] theorem raiseAllIf_day (b : Bool) (k : EventKind) (s : State) :
    (raiseAllIf b k s).day = s.day := by cases b <;> rfl
@[simp] theorem raiseAllIf_openMinute (b : Bool) (k : EventKind) (s : State) :
    (raiseAllIf b k s).openMinute = s.openMinute := by cases b <;> rfl
@[simp] theorem raiseAllIf_closeMinute (b : Bool) (k : EventKind) (s : State) :
    (raiseAllIf b k s).closeMinute = s.closeMinute := by cases b <;> rfl
@[simp] theorem raiseAllIf_attractions (b : Bool) (k : EventKind) (s : State) :
    (raiseAllIf b k s).attractions = s.attractions := by cases b <;> rfl
@[simp] theorem raiseAllIf_slots (b : Bool) (k : EventKind) (s : State) :
    (raiseAllIf b k s).slots = s.slots := by cases b <;> rfl
@[simp] theorem raiseAllIf_freeQueue (b : Bool) (k : EventKind) (s : State) :
    (raiseAllIf b k s).freeQueue = s.freeQueue := by cases b <;> rfl
@[simp] theorem raiseAllIf_postings (b : Bool) (k : EventKind) (s : State) :
    (raiseAllIf b k s).postings = s.postings := by cases b <;> rfl
@[simp] theorem raiseAllIf_lines (b : Bool) (k : EventKind) (s : State) :
    (raiseAllIf b k s).lines = s.lines := by cases b <;> rfl
@[simp] theorem raiseAllIf_entries (b : Bool) (k : EventKind) (s : State) :
    (raiseAllIf b k s).entries = s.entries := by cases b <;> rfl
@[simp] theorem raiseAllIf_dirty (b : Bool) (k : EventKind) (s : State) :
    (raiseAllIf b k s).dirty = s.dirty := by cases b <;> rfl
@[simp] theorem raiseAllIf_refresh (b : Bool) (k : EventKind) (s : State) :
    (raiseAllIf b k s).refresh = s.refresh := by cases b <;> rfl
@[simp] theorem raiseAllIf_board (b : Bool) (k : EventKind) (s : State) :
    (raiseAllIf b k s).board = s.board := by cases b <;> rfl
@[simp] theorem raiseAllIf_choice (b : Bool) (k : EventKind) (s : State) :
    (raiseAllIf b k s).choice = s.choice := by cases b <;> rfl
@[simp] theorem raiseAllIf_pending (b : Bool) (k : EventKind) (s : State) :
    (raiseAllIf b k s).pending = s.pending := by cases b <;> rfl
@[simp] theorem raiseAllIf_att (b : Bool) (k : EventKind) (s : State) (c : AttrNo) :
    (raiseAllIf b k s).att c = s.att c := att_congr (raiseAllIf_attractions b k s) c

/-! ### raiseWindow -/

@[simp] theorem raiseWindow_clock (hit : AttrNo → Bool) (s : State) :
    (raiseWindow hit s).clock = s.clock := rfl
@[simp] theorem raiseWindow_clockSet (hit : AttrNo → Bool) (s : State) :
    (raiseWindow hit s).clockSet = s.clockSet := rfl
@[simp] theorem raiseWindow_pendingClock (hit : AttrNo → Bool) (s : State) :
    (raiseWindow hit s).pendingClock = s.pendingClock := rfl
@[simp] theorem raiseWindow_day (hit : AttrNo → Bool) (s : State) :
    (raiseWindow hit s).day = s.day := rfl
@[simp] theorem raiseWindow_openMinute (hit : AttrNo → Bool) (s : State) :
    (raiseWindow hit s).openMinute = s.openMinute := rfl
@[simp] theorem raiseWindow_closeMinute (hit : AttrNo → Bool) (s : State) :
    (raiseWindow hit s).closeMinute = s.closeMinute := rfl
@[simp] theorem raiseWindow_attractions (hit : AttrNo → Bool) (s : State) :
    (raiseWindow hit s).attractions = s.attractions := rfl
@[simp] theorem raiseWindow_slots (hit : AttrNo → Bool) (s : State) :
    (raiseWindow hit s).slots = s.slots := rfl
@[simp] theorem raiseWindow_freeQueue (hit : AttrNo → Bool) (s : State) :
    (raiseWindow hit s).freeQueue = s.freeQueue := rfl
@[simp] theorem raiseWindow_postings (hit : AttrNo → Bool) (s : State) :
    (raiseWindow hit s).postings = s.postings := rfl
@[simp] theorem raiseWindow_lines (hit : AttrNo → Bool) (s : State) :
    (raiseWindow hit s).lines = s.lines := rfl
@[simp] theorem raiseWindow_entries (hit : AttrNo → Bool) (s : State) :
    (raiseWindow hit s).entries = s.entries := rfl
@[simp] theorem raiseWindow_dirty (hit : AttrNo → Bool) (s : State) :
    (raiseWindow hit s).dirty = s.dirty := rfl
@[simp] theorem raiseWindow_refresh (hit : AttrNo → Bool) (s : State) :
    (raiseWindow hit s).refresh = s.refresh := rfl
@[simp] theorem raiseWindow_board (hit : AttrNo → Bool) (s : State) :
    (raiseWindow hit s).board = s.board := rfl
@[simp] theorem raiseWindow_choice (hit : AttrNo → Bool) (s : State) :
    (raiseWindow hit s).choice = s.choice := rfl
@[simp] theorem raiseWindow_pending (hit : AttrNo → Bool) (s : State) :
    (raiseWindow hit s).pending = s.pending := rfl
@[simp] theorem raiseWindow_att (hit : AttrNo → Bool) (s : State) (b : AttrNo) :
    (raiseWindow hit s).att b = s.att b := att_congr (raiseWindow_attractions hit s) b

/-! ### raiseScan -/

@[simp] theorem raiseScan_clock (s : State) :
    (raiseScan s).clock = s.clock := rfl
@[simp] theorem raiseScan_clockSet (s : State) :
    (raiseScan s).clockSet = s.clockSet := rfl
@[simp] theorem raiseScan_pendingClock (s : State) :
    (raiseScan s).pendingClock = s.pendingClock := rfl
@[simp] theorem raiseScan_day (s : State) :
    (raiseScan s).day = s.day := rfl
@[simp] theorem raiseScan_openMinute (s : State) :
    (raiseScan s).openMinute = s.openMinute := rfl
@[simp] theorem raiseScan_closeMinute (s : State) :
    (raiseScan s).closeMinute = s.closeMinute := rfl
@[simp] theorem raiseScan_attractions (s : State) :
    (raiseScan s).attractions = s.attractions := rfl
@[simp] theorem raiseScan_slots (s : State) :
    (raiseScan s).slots = s.slots := rfl
@[simp] theorem raiseScan_freeQueue (s : State) :
    (raiseScan s).freeQueue = s.freeQueue := rfl
@[simp] theorem raiseScan_postings (s : State) :
    (raiseScan s).postings = s.postings := rfl
@[simp] theorem raiseScan_lines (s : State) :
    (raiseScan s).lines = s.lines := rfl
@[simp] theorem raiseScan_entries (s : State) :
    (raiseScan s).entries = s.entries := rfl
@[simp] theorem raiseScan_dirty (s : State) :
    (raiseScan s).dirty = s.dirty := rfl
@[simp] theorem raiseScan_refresh (s : State) :
    (raiseScan s).refresh = s.refresh := rfl
@[simp] theorem raiseScan_board (s : State) :
    (raiseScan s).board = s.board := rfl
@[simp] theorem raiseScan_choice (s : State) :
    (raiseScan s).choice = s.choice := rfl
@[simp] theorem raiseScan_pending (s : State) :
    (raiseScan s).pending = s.pending := rfl
@[simp] theorem raiseScan_att (s : State) (b : AttrNo) :
    (raiseScan s).att b = s.att b := att_congr (raiseScan_attractions s) b

/-! ### recomputeOffer -/

@[simp] theorem recomputeOffer_clock (a : AttrNo) (s : State) :
    (recomputeOffer a s).clock = s.clock := rfl
@[simp] theorem recomputeOffer_clockSet (a : AttrNo) (s : State) :
    (recomputeOffer a s).clockSet = s.clockSet := rfl
@[simp] theorem recomputeOffer_pendingClock (a : AttrNo) (s : State) :
    (recomputeOffer a s).pendingClock = s.pendingClock := rfl
@[simp] theorem recomputeOffer_day (a : AttrNo) (s : State) :
    (recomputeOffer a s).day = s.day := rfl
@[simp] theorem recomputeOffer_openMinute (a : AttrNo) (s : State) :
    (recomputeOffer a s).openMinute = s.openMinute := rfl
@[simp] theorem recomputeOffer_closeMinute (a : AttrNo) (s : State) :
    (recomputeOffer a s).closeMinute = s.closeMinute := rfl
@[simp] theorem recomputeOffer_slots (a : AttrNo) (s : State) :
    (recomputeOffer a s).slots = s.slots := rfl
@[simp] theorem recomputeOffer_freeQueue (a : AttrNo) (s : State) :
    (recomputeOffer a s).freeQueue = s.freeQueue := rfl
@[simp] theorem recomputeOffer_postings (a : AttrNo) (s : State) :
    (recomputeOffer a s).postings = s.postings := rfl
@[simp] theorem recomputeOffer_lines (a : AttrNo) (s : State) :
    (recomputeOffer a s).lines = s.lines := rfl
@[simp] theorem recomputeOffer_entries (a : AttrNo) (s : State) :
    (recomputeOffer a s).entries = s.entries := rfl
@[simp] theorem recomputeOffer_dirty (a : AttrNo) (s : State) :
    (recomputeOffer a s).dirty = s.dirty := rfl
@[simp] theorem recomputeOffer_refresh (a : AttrNo) (s : State) :
    (recomputeOffer a s).refresh = s.refresh := rfl
@[simp] theorem recomputeOffer_board (a : AttrNo) (s : State) :
    (recomputeOffer a s).board = s.board := rfl
@[simp] theorem recomputeOffer_ports (a : AttrNo) (s : State) :
    (recomputeOffer a s).ports = s.ports := rfl
@[simp] theorem recomputeOffer_choice (a : AttrNo) (s : State) :
    (recomputeOffer a s).choice = s.choice := rfl
@[simp] theorem recomputeOffer_pending (a : AttrNo) (s : State) :
    (recomputeOffer a s).pending = s.pending := rfl
@[simp] theorem recomputeOffer_port (a : AttrNo) (s : State) (q : PortNo) :
    (recomputeOffer a s).port q = s.port q := port_congr (recomputeOffer_ports a s) q

/-! ### recomputeOffers -/

@[simp] theorem recomputeOffers_clock (s : State) :
    (recomputeOffers s).clock = s.clock := rfl
@[simp] theorem recomputeOffers_clockSet (s : State) :
    (recomputeOffers s).clockSet = s.clockSet := rfl
@[simp] theorem recomputeOffers_pendingClock (s : State) :
    (recomputeOffers s).pendingClock = s.pendingClock := rfl
@[simp] theorem recomputeOffers_day (s : State) :
    (recomputeOffers s).day = s.day := rfl
@[simp] theorem recomputeOffers_openMinute (s : State) :
    (recomputeOffers s).openMinute = s.openMinute := rfl
@[simp] theorem recomputeOffers_closeMinute (s : State) :
    (recomputeOffers s).closeMinute = s.closeMinute := rfl
@[simp] theorem recomputeOffers_slots (s : State) :
    (recomputeOffers s).slots = s.slots := rfl
@[simp] theorem recomputeOffers_freeQueue (s : State) :
    (recomputeOffers s).freeQueue = s.freeQueue := rfl
@[simp] theorem recomputeOffers_postings (s : State) :
    (recomputeOffers s).postings = s.postings := rfl
@[simp] theorem recomputeOffers_lines (s : State) :
    (recomputeOffers s).lines = s.lines := rfl
@[simp] theorem recomputeOffers_entries (s : State) :
    (recomputeOffers s).entries = s.entries := rfl
@[simp] theorem recomputeOffers_dirty (s : State) :
    (recomputeOffers s).dirty = s.dirty := rfl
@[simp] theorem recomputeOffers_refresh (s : State) :
    (recomputeOffers s).refresh = s.refresh := rfl
@[simp] theorem recomputeOffers_board (s : State) :
    (recomputeOffers s).board = s.board := rfl
@[simp] theorem recomputeOffers_ports (s : State) :
    (recomputeOffers s).ports = s.ports := rfl
@[simp] theorem recomputeOffers_choice (s : State) :
    (recomputeOffers s).choice = s.choice := rfl
@[simp] theorem recomputeOffers_pending (s : State) :
    (recomputeOffers s).pending = s.pending := rfl
@[simp] theorem recomputeOffers_port (s : State) (q : PortNo) :
    (recomputeOffers s).port q = s.port q := port_congr (recomputeOffers_ports s) q

/-! ### changeWindows -/

@[simp] theorem changeWindows_clock (a : AttrNo) (f : Window → Window) (s : State) :
    (changeWindows a f s).clock = s.clock := by unfold changeWindows; simp only []; split <;> rfl
@[simp] theorem changeWindows_clockSet (a : AttrNo) (f : Window → Window) (s : State) :
    (changeWindows a f s).clockSet = s.clockSet := by unfold changeWindows; simp only []; split <;> rfl
@[simp] theorem changeWindows_pendingClock (a : AttrNo) (f : Window → Window) (s : State) :
    (changeWindows a f s).pendingClock = s.pendingClock := by unfold changeWindows; simp only []; split <;> rfl
@[simp] theorem changeWindows_day (a : AttrNo) (f : Window → Window) (s : State) :
    (changeWindows a f s).day = s.day := by unfold changeWindows; simp only []; split <;> rfl
@[simp] theorem changeWindows_openMinute (a : AttrNo) (f : Window → Window) (s : State) :
    (changeWindows a f s).openMinute = s.openMinute := by unfold changeWindows; simp only []; split <;> rfl
@[simp] theorem changeWindows_closeMinute (a : AttrNo) (f : Window → Window) (s : State) :
    (changeWindows a f s).closeMinute = s.closeMinute := by unfold changeWindows; simp only []; split <;> rfl
@[simp] theorem changeWindows_slots (a : AttrNo) (f : Window → Window) (s : State) :
    (changeWindows a f s).slots = s.slots := by unfold changeWindows; simp only []; split <;> rfl
@[simp] theorem changeWindows_freeQueue (a : AttrNo) (f : Window → Window) (s : State) :
    (changeWindows a f s).freeQueue = s.freeQueue := by unfold changeWindows; simp only []; split <;> rfl
@[simp] theorem changeWindows_postings (a : AttrNo) (f : Window → Window) (s : State) :
    (changeWindows a f s).postings = s.postings := by unfold changeWindows; simp only []; split <;> rfl
@[simp] theorem changeWindows_lines (a : AttrNo) (f : Window → Window) (s : State) :
    (changeWindows a f s).lines = s.lines := by unfold changeWindows; simp only []; split <;> rfl
@[simp] theorem changeWindows_entries (a : AttrNo) (f : Window → Window) (s : State) :
    (changeWindows a f s).entries = s.entries := by unfold changeWindows; simp only []; split <;> rfl
@[simp] theorem changeWindows_dirty (a : AttrNo) (f : Window → Window) (s : State) :
    (changeWindows a f s).dirty = s.dirty := by unfold changeWindows; simp only []; split <;> rfl
@[simp] theorem changeWindows_refresh (a : AttrNo) (f : Window → Window) (s : State) :
    (changeWindows a f s).refresh = s.refresh := by unfold changeWindows; simp only []; split <;> rfl
@[simp] theorem changeWindows_board (a : AttrNo) (f : Window → Window) (s : State) :
    (changeWindows a f s).board = s.board := by unfold changeWindows; simp only []; split <;> rfl
@[simp] theorem changeWindows_choice (a : AttrNo) (f : Window → Window) (s : State) :
    (changeWindows a f s).choice = s.choice := by unfold changeWindows; simp only []; split <;> rfl
@[simp] theorem changeWindows_pending (a : AttrNo) (f : Window → Window) (s : State) :
    (changeWindows a f s).pending = s.pending := by unfold changeWindows; simp only []; split <;> rfl

/-! ### voidWindows -/

@[simp] theorem voidWindows_clock (a : AttrNo) (s : State) :
    (voidWindows a s).clock = s.clock := by simp [voidWindows]
@[simp] theorem voidWindows_clockSet (a : AttrNo) (s : State) :
    (voidWindows a s).clockSet = s.clockSet := by simp [voidWindows]
@[simp] theorem voidWindows_pendingClock (a : AttrNo) (s : State) :
    (voidWindows a s).pendingClock = s.pendingClock := by simp [voidWindows]
@[simp] theorem voidWindows_day (a : AttrNo) (s : State) :
    (voidWindows a s).day = s.day := by simp [voidWindows]
@[simp] theorem voidWindows_openMinute (a : AttrNo) (s : State) :
    (voidWindows a s).openMinute = s.openMinute := by simp [voidWindows]
@[simp] theorem voidWindows_closeMinute (a : AttrNo) (s : State) :
    (voidWindows a s).closeMinute = s.closeMinute := by simp [voidWindows]
@[simp] theorem voidWindows_freeQueue (a : AttrNo) (s : State) :
    (voidWindows a s).freeQueue = s.freeQueue := by simp [voidWindows]
@[simp] theorem voidWindows_postings (a : AttrNo) (s : State) :
    (voidWindows a s).postings = s.postings := by simp [voidWindows]
@[simp] theorem voidWindows_lines (a : AttrNo) (s : State) :
    (voidWindows a s).lines = s.lines := by simp [voidWindows]
@[simp] theorem voidWindows_entries (a : AttrNo) (s : State) :
    (voidWindows a s).entries = s.entries := by simp [voidWindows]
@[simp] theorem voidWindows_dirty (a : AttrNo) (s : State) :
    (voidWindows a s).dirty = s.dirty := by simp [voidWindows]
@[simp] theorem voidWindows_refresh (a : AttrNo) (s : State) :
    (voidWindows a s).refresh = s.refresh := by simp [voidWindows]
@[simp] theorem voidWindows_board (a : AttrNo) (s : State) :
    (voidWindows a s).board = s.board := by simp [voidWindows]
@[simp] theorem voidWindows_choice (a : AttrNo) (s : State) :
    (voidWindows a s).choice = s.choice := by simp [voidWindows]
@[simp] theorem voidWindows_pending (a : AttrNo) (s : State) :
    (voidWindows a s).pending = s.pending := by simp [voidWindows]

/-! ### emptyBook -/

@[simp] theorem emptyBook_clock (s : State) :
    (emptyBook s).clock = s.clock := rfl
@[simp] theorem emptyBook_clockSet (s : State) :
    (emptyBook s).clockSet = s.clockSet := rfl
@[simp] theorem emptyBook_pendingClock (s : State) :
    (emptyBook s).pendingClock = s.pendingClock := rfl
@[simp] theorem emptyBook_day (s : State) :
    (emptyBook s).day = s.day := rfl
@[simp] theorem emptyBook_openMinute (s : State) :
    (emptyBook s).openMinute = s.openMinute := rfl
@[simp] theorem emptyBook_closeMinute (s : State) :
    (emptyBook s).closeMinute = s.closeMinute := rfl
@[simp] theorem emptyBook_slots (s : State) :
    (emptyBook s).slots = s.slots := rfl
@[simp] theorem emptyBook_freeQueue (s : State) :
    (emptyBook s).freeQueue = s.freeQueue := rfl
@[simp] theorem emptyBook_postings (s : State) :
    (emptyBook s).postings = s.postings := rfl
@[simp] theorem emptyBook_lines (s : State) :
    (emptyBook s).lines = s.lines := rfl
@[simp] theorem emptyBook_entries (s : State) :
    (emptyBook s).entries = s.entries := rfl
@[simp] theorem emptyBook_dirty (s : State) :
    (emptyBook s).dirty = s.dirty := rfl
@[simp] theorem emptyBook_refresh (s : State) :
    (emptyBook s).refresh = s.refresh := rfl
@[simp] theorem emptyBook_board (s : State) :
    (emptyBook s).board = s.board := rfl
@[simp] theorem emptyBook_choice (s : State) :
    (emptyBook s).choice = s.choice := rfl
@[simp] theorem emptyBook_pending (s : State) :
    (emptyBook s).pending = s.pending := rfl

/-! ### endFrame -/

@[simp] theorem endFrame_clock (m : Nat) (s : State) :
    (endFrame m s).clock = s.clock := rfl
@[simp] theorem endFrame_clockSet (m : Nat) (s : State) :
    (endFrame m s).clockSet = s.clockSet := rfl
@[simp] theorem endFrame_pendingClock (m : Nat) (s : State) :
    (endFrame m s).pendingClock = s.pendingClock := rfl
@[simp] theorem endFrame_openMinute (m : Nat) (s : State) :
    (endFrame m s).openMinute = s.openMinute := rfl
@[simp] theorem endFrame_closeMinute (m : Nat) (s : State) :
    (endFrame m s).closeMinute = s.closeMinute := rfl
@[simp] theorem endFrame_postings (m : Nat) (s : State) :
    (endFrame m s).postings = s.postings := rfl
@[simp] theorem endFrame_lines (m : Nat) (s : State) :
    (endFrame m s).lines = s.lines := rfl
@[simp] theorem endFrame_entries (m : Nat) (s : State) :
    (endFrame m s).entries = s.entries := rfl
@[simp] theorem endFrame_dirty (m : Nat) (s : State) :
    (endFrame m s).dirty = s.dirty := rfl
@[simp] theorem endFrame_refresh (m : Nat) (s : State) :
    (endFrame m s).refresh = s.refresh := rfl
@[simp] theorem endFrame_board (m : Nat) (s : State) :
    (endFrame m s).board = s.board := rfl
@[simp] theorem endFrame_choice (m : Nat) (s : State) :
    (endFrame m s).choice = s.choice := rfl
@[simp] theorem endFrame_pending (m : Nat) (s : State) :
    (endFrame m s).pending = s.pending := rfl

/-! ### openFrameDay -/

@[simp] theorem openFrameDay_clock (s : State) :
    (openFrameDay s).clock = s.clock := rfl
@[simp] theorem openFrameDay_clockSet (s : State) :
    (openFrameDay s).clockSet = s.clockSet := rfl
@[simp] theorem openFrameDay_pendingClock (s : State) :
    (openFrameDay s).pendingClock = s.pendingClock := rfl
@[simp] theorem openFrameDay_openMinute (s : State) :
    (openFrameDay s).openMinute = s.openMinute := rfl
@[simp] theorem openFrameDay_closeMinute (s : State) :
    (openFrameDay s).closeMinute = s.closeMinute := rfl
@[simp] theorem openFrameDay_slots (s : State) :
    (openFrameDay s).slots = s.slots := rfl
@[simp] theorem openFrameDay_freeQueue (s : State) :
    (openFrameDay s).freeQueue = s.freeQueue := rfl
@[simp] theorem openFrameDay_postings (s : State) :
    (openFrameDay s).postings = s.postings := rfl
@[simp] theorem openFrameDay_lines (s : State) :
    (openFrameDay s).lines = s.lines := rfl
@[simp] theorem openFrameDay_entries (s : State) :
    (openFrameDay s).entries = s.entries := rfl
@[simp] theorem openFrameDay_dirty (s : State) :
    (openFrameDay s).dirty = s.dirty := rfl
@[simp] theorem openFrameDay_refresh (s : State) :
    (openFrameDay s).refresh = s.refresh := rfl
@[simp] theorem openFrameDay_board (s : State) :
    (openFrameDay s).board = s.board := rfl
@[simp] theorem openFrameDay_ports (s : State) :
    (openFrameDay s).ports = s.ports := rfl
@[simp] theorem openFrameDay_choice (s : State) :
    (openFrameDay s).choice = s.choice := rfl
@[simp] theorem openFrameDay_pending (s : State) :
    (openFrameDay s).pending = s.pending := rfl
@[simp] theorem openFrameDay_port (s : State) (q : PortNo) :
    (openFrameDay s).port q = s.port q := port_congr (openFrameDay_ports s) q

/-! ## What the operations write -/

@[simp] theorem raiseAll_port (k : EventKind) (s : State) (q : PortNo) : (raiseAll k s).port q = (s.port q).raise k := by
  simp [raiseAll]

theorem raiseAllIf_port (b : Bool) (k : EventKind) (s : State) (q : PortNo) :
    (raiseAllIf b k s).port q = if b then (s.port q).raise k else s.port q := by
  cases b <;> simp [raiseAllIf]

@[simp] theorem raiseWindow_port (hit : AttrNo → Bool) (s : State) (q : PortNo) :
    (raiseWindow hit s).port q = if (s.port q).namesSome hit then (s.port q).raise .window else s.port q := by
  simp [raiseWindow]

@[simp] theorem raiseScan_port (s : State) (q : PortNo) :
    (raiseScan s).port q = if (s.port q).role = .ops then (s.port q).raise .scan else s.port q := by
  simp [raiseScan]

theorem namesSome_eq (s : State) (q : PortNo) (a : AttrNo) :
    (s.port q).namesSome (fun x => decide (x = a)) = s.watches q a := rfl

@[simp] theorem recomputeOffer_att_self (a : AttrNo) (s : State) :
    (recomputeOffer a s).att a = { s.att a with offer := offerNow s (s.att a) } := by
  simp [recomputeOffer]

theorem recomputeOffer_att_ne {a b : AttrNo} (s : State) (h : b ≠ a) : (recomputeOffer a s).att b = s.att b :=
  att_updAtt_ne s _ h

@[simp] theorem recomputeOffers_att (s : State) (a : AttrNo) :
    (recomputeOffers s).att a = { s.att a with offer := offerNow s (s.att a) } := by
  simp [recomputeOffers]

/-- Whether a change of windows changes a state. -/
theorem statesDiffer_map {f : Window → Window} {g : Window → Bool} (h : ∀ x, (f x).state ≠ x.state ↔ g x = true)
    (xs : List Window) : statesDiffer xs (xs.map f) = xs.any g := by
  induction xs with
  | nil => rfl
  | cons x xs ih =>
    simp only [statesDiffer, List.map_cons, List.any_cons] at *
    rw [← ih]
    by_cases hx : g x = true
    · have := (h x).mpr hx
      rw [hx]
      simp only [Bool.true_or, bne_iff_ne, ne_eq, List.cons.injEq, not_and]
      exact fun e => absurd e.symm this
    · have : (f x).state = x.state := by
        by_contra e
        exact hx ((h x).mp e)
      rw [this, Bool.eq_false_iff.mpr hx, Bool.false_or, Bool.eq_iff_iff]
      simp

theorem changeWindows_att (a b : AttrNo) (f : Window → Window) (s : State) :
    (changeWindows a f s).att b =
      if b = a then { s.att a with windows := (s.att a).windows.map (List.map f) } else s.att b := by
  unfold changeWindows
  simp only []
  split <;> simp [att_updAtt]

theorem changeWindows_port (a : AttrNo) (f : Window → Window) (s : State) (q : PortNo) :
    (changeWindows a f s).port q =
      if statesDiffer (s.att a).list ((s.att a).list.map f) && s.watches q a then (s.port q).raise .window
      else s.port q := by
  unfold changeWindows
  simp only []
  cases statesDiffer (s.att a).list ((s.att a).list.map f)
  · simp
  · simp only [if_true, raiseWindow_port, Bool.true_and]
    rfl

/-! ## The pass table -/

theorem freeWhere_slot (s : State) (hit : Pass → Bool) (i : SlotNo) :
    (s.freeWhere hit).slots[i] = s.slots[i].freeIf hit := by
  simp [State.freeWhere]

theorem retag_slot (s : State) (hit : Pass → Bool) (st : PassState) (i : SlotNo) :
    (s.retag hit st).slots[i] = s.slots[i].retagIf hit st := by
  simp [State.retag]

@[simp] theorem freeIf_generation (hit : Pass → Bool) (x : Slot) : (x.freeIf hit).generation = x.generation := by
  unfold Slot.freeIf
  split
  · split <;> rfl
  · rfl

@[simp] theorem retagIf_generation (hit : Pass → Bool) (st : PassState) (x : Slot) :
    (x.retagIf hit st).generation = x.generation := by
  unfold Slot.retagIf
  split
  · split <;> rfl
  · rfl

theorem freeIf_pass_eq_some (hit : Pass → Bool) (x : Slot) (r : Pass) :
    (x.freeIf hit).pass = some r ↔ x.pass = some r ∧ hit r = false := by
  unfold Slot.freeIf
  cases hx : x.pass with
  | none => simp [hx]
  | some y =>
    simp only []
    cases hy : hit y
    · simp only [Bool.false_eq_true, if_false, hx, Option.some.injEq]
      constructor
      · rintro rfl
        exact ⟨rfl, hy⟩
      · exact fun h => h.1
    · simp only [if_true, Option.some.injEq]
      constructor
      · intro h
        cases h
      · rintro ⟨rfl, h⟩
        rw [hy] at h
        cases h

/-- Retagging frees no slot and takes none. -/
theorem retagIf_pass_isSome (hit : Pass → Bool) (st : PassState) (x : Slot) :
    (x.retagIf hit st).pass.isSome = x.pass.isSome := by
  unfold Slot.retagIf
  cases hx : x.pass with
  | none => simp [hx]
  | some y =>
    simp only []
    split <;> simp [hx]

theorem mem_slotsWhere (s : State) (hit : Pass → Bool) (i : SlotNo) :
    i ∈ s.slotsWhere hit ↔ ∃ r, s.slots[i].pass = some r ∧ hit r = true := by
  unfold State.slotsWhere
  rw [List.mem_filterMap]
  constructor
  · rintro ⟨⟨x, j⟩, hm, hx⟩
    obtain ⟨n, hn, he⟩ := List.mem_iff_getElem.mp hm
    simp only [List.getElem_zip, Vector.getElem_toList, List.getElem_finRange, Prod.mk.injEq] at he
    obtain ⟨he1, he2⟩ := he
    simp only at hx
    cases hp : x.pass with
    | none => simp [hp] at hx
    | some r =>
      simp only [hp] at hx
      split at hx
      · next hh =>
        obtain rfl : j = i := by simpa using hx
        refine ⟨r, ?_, hh⟩
        rw [← hp, ← he1]
        congr 1
        simp [← he2]
      · cases hx
  · rintro ⟨r, hr, hh⟩
    refine ⟨(s.slots[i], i), ?_, by simp only [hr, hh, if_true]⟩
    rw [List.mem_iff_getElem]
    refine ⟨i.val, by simp, by simp⟩

/-- What an allocation answers: the head of the free queue, its next generation and the record (R113). -/
theorem allocate_eq_some {s t : State} {r : Pass} {id : Nat} (h : s.allocate r = some (t, id)) :
    ∃ i rest, s.freeQueue = i :: rest ∧ id = passId i (nextGeneration s.slots[i].generation) ∧
      t = { s with
        slots := s.slots.set i ⟨nextGeneration s.slots[i].generation, some r⟩
        freeQueue := rest } := by
  unfold State.allocate at h
  split at h
  · cases h
  · next i rest hq =>
    simp only [Option.some.injEq, Prod.mk.injEq] at h
    exact ⟨i, rest, hq, h.2.symm, h.1.symm⟩

/-- What an id names, through the slot its low twelve bits give (R111). -/
theorem resolve_eq (s : State) {id : Nat} {i : SlotNo} (h : i.val = id % 4096) :
    s.resolve id = if s.slots[i].generation = id / 4096 then s.slots[i].pass else none := by
  obtain rfl : slotOf id = i := Fin.ext h.symm
  rfl

/-! ## Orders -/

theorem insertBy_perm {α : Type} (rank : α → Nat) (x : α) (xs : List α) : (insertBy rank x xs).Perm (x :: xs) := by
  induction xs with
  | nil => exact List.Perm.refl _
  | cons y ys ih =>
    unfold insertBy
    split
    · exact List.Perm.refl _
    · exact (ih.cons y).trans (List.Perm.swap x y ys)

/-- A free order takes every work once. -/
theorem orderBy_perm {α : Type} (rank : α → Nat) (xs : List α) : (orderBy rank xs).Perm xs := by
  induction xs with
  | nil => exact List.Perm.refl _
  | cons x xs ih => exact (insertBy_perm rank x _).trans (ih.cons x)

/-- What every work keeps, a run of works keeps. -/
theorem foldl_keeps {α β : Type} {P : β → Prop} {f : β → α → β} (h : ∀ b a, P b → P (f b a)) (xs : List α) (b : β)
    (hb : P b) : P (xs.foldl f b) := by
  induction xs generalizing b with
  | nil => exact hb
  | cons x xs ih => exact ih _ (h b x hb)

end Sys2Proof.Machine
end

