-- ==== Sys2Proof/WellFormed.lean ====
section
/-! DEFINITION. Which commands are well formed. The operand types bound every index but one. -/

namespace Sys2Proof

/-- A command is well formed when a window index it names lies in 0..63 (R87). A port, an attraction and a line are
bounded by their types, and a PSEL_RISE may carry any number of bits (R158). -/
def Instr.wf : Instr → Bool
  | .retirement _ w => decide (w < Config.maxWindows)
  | _ => true

end Sys2Proof
end

