-- ==== Sys2Proof/Tests/Slice0.lean ====
section
/-! SUPPORT. Tests on the worked examples of spec/, the smoke test of WellFormed, and for each statement with hypotheses a
state that meets them. -/

namespace Sys2Proof.Tests
open Sys2Proof Sys2Proof.Machine

/-! ## A park with one ride -/

/-- The descriptor of attraction 7 (section 2.6). -/
def desc7 : Descriptor := ⟨1800, 40, 50, 15, 20, 90, 3, 1, 30, 80, 3, 5, 180, 10, 10, 15, 10⟩

/-- Attraction 7 in a state, with the counts of section 3.7 and the figures of section 4.9. -/
def ride (st : RideState) : Attraction :=
  { Attraction.unused with
    state := st, desc := desc7, q := 600, m := 40, throughput := 480, ageCounter := 9, target := 30, posted := 35 }

/-- Attraction 7 CLOSED, with no counts. -/
def shut : Attraction := { ride .closed with q := 0, m := 0 }

/-- The states and ended-at minutes of section 5.8, with the bookings of section 5.7. -/
def bookAt (w : Nat) : Window :=
  { quota := 180
    booked := match w with | 6 => 180 | 7 => 170 | 8 => 180 | 9 => 120 | 10 => 46 | 11 => 176 | 12 => 92 | 13 => 40 | _ => 0
    arrived := match w with | 6 => 171 | 7 => 166 | 8 => 160 | 9 => 40 | _ => 0
    state := if w < 5 then .spent else if w < 7 then .closed else if w < 10 then .opened else .future
    endedAt := if w < 7 then some (570 + 15 * w) else none }

/-- The list of attraction 7 at minute 667 (section 5.7). -/
def book : List Window := (List.range 52).map bookAt

/-- A frame from 540 to 1320 at a reading, with attraction 7 as given, and Port 0's shadow naming it. -/
def park (day : DayState) (t : Time) (r : Attraction) : State :=
  { State.reset with
      clock := t
      clockSet := true
      day := day
      openMinute := some 540
      closeMinute := some 1320
      attractions := State.reset.attractions.set 7 r }.updPort 0 fun q => { q with shadow := some ⟨7, 0, 15, 40, 10, 52⟩ }

/-- 11:07:10 of an OPEN frame (section 5.7). -/
def at1107 : Time := ⟨11, 7, 10⟩

/-- The last second before 11:07. -/
def to1107 : Time := ⟨11, 6, 59⟩

/-- Attraction 7 in a state with its list and its offer. -/
def booked (st : RideState) : Attraction := { ride st with windows := some book, offer := some 705 }

/-- Slot 0 holds, under id 4096, a pass of three for a window of attraction 7. -/
def withPass (w : Nat) (st : PassState) (s : State) : State :=
  { s with
    slots := s.slots.set 0 ⟨1, some ⟨7, w, 3, st, 666, 2, if st = .redeemed then some 666 else none⟩⟩
    freeQueue := s.freeQueue.drop 1 }

/-- The OPEN frame of section 5.7, with a pass for window 11. -/
def day : State := withPass 11 .issued (park .opened at1107 (booked .operating))

/-- A state with a request in hand at Port 0, strapped as given. -/
def held (role : Role) (kind : Byte) (args : List Byte) (b : State) : State :=
  (settle b).updPort 0 fun q => { q with role := role, link := .working (requestFrame kind args) }

/-- The state a command leaves. -/
def after (i : Instr) (s : State) : State :=
  match exec i s with
  | .next t => t
  | .fault _ => s
  | .refused _ => s

/-- The result code and the data of the reply that a command leaves at Port 0. -/
def answer (i : Instr) (s : State) : Option (Byte × List Byte) :=
  match ((after i s).port 0).link with
  | .ready (_ :: code :: _ :: rest) => some (code, rest.dropLast)
  | _ => none

/-! ## Well-formedness -/

theorem test_wf_window_64 : Instr.wf (.retirement 0 64) = false := by decide
theorem test_wf_window_63 : Instr.wf (.retirement 0 63) = true := by decide

/-! ## Resets, ticks -/

theorem test_powerOn : (after (.powerOn resetStraps) day).day = .unset ∧ (after (.powerOn resetStraps) day).att 7 = .unused ∧
    (after (.powerOn resetStraps) day).freeQueue.head? = some 0 := by decide +kernel

/-- R175: the clock and the pass table stay; the line goes to the gap. -/
theorem test_lineReset : (after (.lineReset resetStraps) { day with pendingClock := some at1107 }).board = .resynchronising ∧
    (after (.lineReset resetStraps) { day with pendingClock := some at1107 }).pendingClock = none ∧
    (after (.lineReset resetStraps) day).slots[0].generation = 1 := by decide +kernel

/-- Section 1.3, event 6. -/
theorem test_secondTick : (after .secondTick (park .opened ⟨11, 49, 5⟩ shut)).clock = ⟨11, 49, 6⟩ := by decide +kernel

/-- Section 1.3, event 5, and midnight. -/
theorem test_reading : ({ park .opened ⟨11, 6, 58⟩ shut with pendingClock := some ⟨11, 49, 5⟩ }).nextReading = ⟨11, 49, 5⟩ ∧
    Time.advance ⟨23, 59, 59⟩ = ⟨0, 0, 0⟩ := by decide +kernel

/-- Section 4.9, the tick for 11:07. -/
theorem test_minuteTick_1107 :
    let r := estimate 540 667 { booked .operating with riders := 36, ageCounter := 10, posted := 40 }
    r.throughput = 492 ∧ r.riders = 0 ∧ r.ageCounter = 9 ∧ r.target = 30 ∧ r.targetOver = false ∧ r.posted = 35 := by
  decide +kernel

/-- Section 4.9, the tick for 11:08, a party of 4 having come to window 9. -/
theorem test_minuteTick_1108 :
    let r := estimate 540 668 ({ booked .operating with q := 561, m := 25, riders := 38, throughput := 492, ageCounter := 10 }.updWindow 9
      fun x => { x with arrived := 44 })
    r.throughput = 507 ∧ r.ageCounter = 9 ∧ r.target = 30 ∧ r.posted = 30 := by
  decide +kernel

/-- Section 4.3: adjustments with k = 3. -/
theorem test_adjustment : [96, 116, 4, 3, -3, -4, -100, -480].map (adjustment · 3) = [12, 15, 1, 0, 0, -1, -13, -60] := by decide

/-- Section 1.6, events 8 and 10. -/
theorem test_frame : (frameWork 540 (park .armed ⟨9, 0, 0⟩ shut)).day = .opened ∧
    (frameWork 1320 (park .opened ⟨22, 0, 0⟩ shut)).day = .ended := by decide +kernel

/-- R70: the tick that finds 1 ages the attraction and holds its posting. -/
theorem test_agingTick : agesNext 7 (park .opened to1107 { ride .operating with ageCounter := 1 }) = true ∧
    (estimate 540 667 { ride .operating with ageCounter := 1 }).aged = true ∧
    (estimate 540 667 { ride .operating with ageCounter := 1 }).posted = 35 := by decide +kernel

/-- Section 5.7: window 11 closes at 735 and retires at 765. -/
theorem test_retirement :
    let x : Window := { bookAt 11 with state := .closed, endedAt := some 735 }
    (tickWindow 764 540 1320 desc7 false 11 x).state = .closed ∧ (tickWindow 765 540 1320 desc7 false 11 x).state = .spent ∧
      tickWindow 735 540 1320 desc7 false 11 { bookAt 11 with state := .opened } = x := by decide +kernel

/-! ## Count lines -/

/-- CL3 of section 3.6. -/
def turnstile : Binding := ⟨7, .entry, .falling, 20⟩

/-- A line after a run of samples at one level, and the counts they bring. -/
def run (level : Bool) : Nat → Line → Line × Nat
  | 0, x => (x, 0)
  | n + 1, x =>
    let y := sampleLine level (run level n x).1
    (y.1, (run level n x).2 + if y.2 then 1 else 0)

/-- Section 3.6, times 0 to 180: no arming at the active level, a bounce after 8 samples, armed at the 20th high sample. -/
theorem test_lineArming : (run false 150 (.unarmed turnstile 0 false)).1 = .unarmed turnstile 0 false ∧
    (run true 8 (.unarmed turnstile 0 false)).1 = .unarmed turnstile 8 true ∧
    (run false 3 (.unarmed turnstile 8 true)).1 = .unarmed turnstile 0 false ∧
    (run true 19 (.unarmed turnstile 0 false)).1 = .unarmed turnstile 19 true ∧
    (run true 20 (.unarmed turnstile 0 false)).1 = .armed turnstile true none := by decide +kernel

/-- Section 3.6, times 400 to 449: the fall counts at its 20th sample, the rise is a release. -/
theorem test_qualifiedTransition : run false 19 (.armed turnstile true none) = (.armed turnstile true (some 19), 0) ∧
    run false 20 (.armed turnstile true none) = (.armed turnstile false none, 1) ∧
    run true 20 (.armed turnstile false none) = (.armed turnstile true none, 0) := by decide

/-- Section 3.6, time 608: a glitch of 8 samples leaves no candidate. -/
theorem test_millisecondSample : sampleLine true (run false 8 (.armed turnstile true none)).1 = (.armed turnstile true none, false) ∧
    (lineWork 0 3 ((park .opened at1107 (ride .operating)).setLine 3 (.armed turnstile true (some 19)))).att 7 =
      { ride .operating with q := 601 } := by decide +kernel

/-! ## The board line -/

/-- Entries 0, 5 and 9 of section 8.7, all for attraction 7. -/
def board : State :=
  { day with
    entries := ((day.entries.set 0 ⟨some ⟨11, 7, .wait⟩, 0⟩).set 5 ⟨some ⟨11, 7, .ret⟩, 0⟩).set 9 ⟨some ⟨31, 7, .wait⟩, 3⟩ }

/-- Section 8.7, steps 10 and 11: the frame of the last valid entry ends the pass, and SCAN comes at its completion. -/
theorem test_frameCompletion :
    let s := after .frameCompletion
      { settle board with refresh := 6, dirty := Vector.replicate _ false, board := .sending ⟨12, .closed, 0, 0, false, false, 0⟩ false }
    let t := after .frameCompletion s
    s.board = .sending ⟨31, .override, 0, 0, false, false, 3⟩ true ∧ s.refresh = 10 ∧ (s.port 0).has .scan = false ∧
      t.board = .sending ⟨11, .wait, 0, 35, false, false, 0⟩ false ∧ t.refresh = 1 ∧ (t.port 0).has .scan = true ∧
      (t.port 1).has .scan = false := by decide +kernel

/-- Section 8.7, step 13; section 8.4: no valid entry. -/
theorem test_gapEnd :
    (after .resynchronisingGapEnd { settle board with board := .resynchronising }).board =
        .sending ⟨11, .wait, 0, 35, false, false, 0⟩ false ∧
      (after .resynchronisingGapEnd { day with board := .resynchronising }).board = .idle := by decide +kernel

/-- Section 11.4: the two frames of entries 0 and 1. -/
theorem test_signFrames : SignFrame.bytes ⟨11, .wait, 0, 35, false, false, 0⟩ = [0x0B, 0x01, 0x00, 0x23, 0x00, 0x00, 0x00, 0x2F] ∧
    SignFrame.bytes ⟨11, .ret, 12, 0, false, false, 0⟩ = [0x0B, 0x02, 0x0C, 0x00, 0x00, 0x00, 0x00, 0x19] := by decide

/-- R151: a start bit, 0x0B with its least significant bit first, a stop bit, the next start bit; high while IDLE. -/
theorem test_boardTx : (List.range 11).map (State.boardTx { day with board := .sending ⟨11, .wait, 0, 35, false, false, 0⟩ false }) =
    [false, true, true, false, true, false, false, false, false, true, false] ∧ day.boardTx 0 = true := by decide

/-! ## The link -/

/-- R160: a WORKING port shifts out 0xFE and zeros. -/
theorem test_pselFall : (((after (.pselFall 0) (held .view 0x01 [] day)).port 0).period).map (·.shifted 3) =
    some [0xFE, 0x00, 0x00] := by decide +kernel

/-- R158 and R160: 0xFE most significant bit first and then zeros; high impedance before the fall. -/
theorem test_pdo : (List.range 9).map ((after (.pselFall 0) (held .view 0x01 [] day)).pdo 0) =
      [true, true, true, true, true, true, true, false, false].map some ∧ day.pdo 0 0 = none := by decide +kernel

/-- Section 11.3: the frame of an ISSUE for a party of 4; R158: three bits left over are discarded. -/
theorem test_pselRise :
    ((after (.pselRise 2 (bitsOfBytes [0x30, 0x03, 0x00, 0x00, 0x04, 0xC9] ++ [true, true, true]))
        (after (.pselFall 2) day)).port 2).link = .working [0x30, 0x03, 0x00, 0x00, 0x04, 0xC9] ∧
      requestFrame 0x30 [0, 0, 4] = [0x30, 0x03, 0x00, 0x00, 0x04, 0xC9] := by decide +kernel

/-! ## Requests that every role may send -/

theorem test_status : answer (.status 0) (held .ops 0x01 [] day) = some (0x00, [0x20, 0, 0, 6, 3, 3, 11, 7, 10]) := by decide +kernel

/-- Section 10.5, step 8: POSTING is set again at once. -/
theorem test_ackEvents : answer (.ackEvents 0) (held .issue 0x02 [0x34] day) = some (0x00, [0x20, 6]) := by decide +kernel

/-- Section 10.5, step 7: WINDOW is HIGH and leads ahead of STALE. -/
theorem test_leading : leadingEvent { (day.port 0) with flags := 0x34, level := 0x10 } = 5 := by decide +kernel

/-- Section 10.5, steps 1 to 3: asserted with POSTING enabled and the port READY, released while it is WORKING. -/
theorem test_attn : Port.attn { (day.port 0) with flags := 0x20, link := .ready [] } = false ∧
    Port.attn { (day.port 0) with flags := 0x20, enable := 0x35, link := .ready [] } = true ∧
    Port.attn { (day.port 0) with flags := 0x20, enable := 0x35, link := .working [] } = false := by decide +kernel

theorem test_setEvents : answer (.setEvents 0) (held .issue 0x03 [0x35, 0x10] day) = some (0x00, [0x35, 0x10]) := by decide +kernel

theorem test_readClock : answer (.readClock 0) (held .view 0x04 [] day) =
    some (0x00, [11, 7, 10, 13, 0, 0, 0, 3, 0x02, 0x1C, 0x05, 0x28]) := by decide +kernel

theorem test_select : answer (.select 0) (held .issue 0x05 [7] day) = some (0x00, [7, 0, 15, 40, 10, 52]) := by decide +kernel

theorem test_readPosting : answer (.readPosting 0) (held .view 0x06 [7] day) = some (0x00, [7, 2, 4, 35, 0x02, 0xC1]) := by
  decide +kernel

theorem test_readChanged : answer (.readChanged 0) (held .view 0x07 [] day) = some (0x00, [0, 7, 2, 4, 35, 0x02, 0xC1]) := by
  decide +kernel

/-- Section 5.7: windows 6 and 7. -/
theorem test_readWindows : answer (.readWindows 0) (held .issue 0x08 [6, 2] day) =
    some (0x00, [7, 52,
      6, 0x02, 0x76, 0x02, 0x85, 3, 0, 180, 0, 180, 0, 171, 0x02, 0x94,
      7, 0x02, 0x85, 0x02, 0x94, 1, 0, 180, 0, 170, 0, 166, 0, 0]) := by decide +kernel

theorem test_readPass : answer (.readPass 0) (held .view 0x09 [0x10, 0x00] day) =
    some (0x00, [0x10, 0x00, 7, 11, 3, 0, 0x02, 0x9A, 2, 0, 0, 0x02, 0xC1, 0x02, 0xD0, 0]) := by decide +kernel

theorem test_readAttraction : answer (.readAttraction 0) (held .view 0x0A [7] day) =
    some (0x00, [2, 0x07, 0x08, 40, 50, 15, 20, 90, 3, 1, 30, 80, 3, 5, 180, 10, 10, 15, 10, 0, 0x02, 0x58, 0, 40, 0, 0, 0x01,
      0xE0, 9]) := by decide +kernel

/-- Section 9.4, row 2. -/
theorem test_unknownRequest : answer (.unknownRequest 0) (held .ride 0x2F [] day) = some (0x02, []) := by decide +kernel

/-! ## Requests of the operations master -/

/-- Section 1.3, events 1 and 3. -/
theorem test_setClock :
    answer (.setClock 0) (held .ops 0x10 [11, 6, 30] (park .opened ⟨11, 6, 58⟩ shut)) = some (0x0B, []) ∧
      answer (.setClock 0) (held .ops 0x10 [12, 20, 0] (park .opened ⟨11, 6, 58⟩ shut)) = some (0x0C, []) := by decide +kernel

/-- HALF at 07:15 with Z = 22:00 present (section 1.6). -/
def half : State := { park .half ⟨7, 15, 0⟩ shut with openMinute := none }

/-- Section 1.6, events 6 and 7. -/
theorem test_frameOpen : answer (.frameOpen 0) (held .ops 0x11 [0x05, 0x64] half) = some (0x04, []) ∧
    (after (.frameOpen 0) (held .ops 0x11 [0x02, 0x1C] half)).day = .armed ∧
    ((after (.frameOpen 0) (held .ops 0x11 [0x02, 0x1C] half)).att 7).list.length = 52 := by decide +kernel

/-- Section 1.6, events 2 and 9. -/
theorem test_frameClose :
    answer (.frameClose 0) (held .ops 0x12 [0x05, 0x28] { State.reset with clock := ⟨0, 3, 10⟩ }) = some (0x09, []) ∧
      ((after (.frameClose 0) (held .ops 0x12 [0x05, 0x0A] day)).att 7).list.length = 50 := by decide +kernel

/-- Section 1.6, event 12. -/
theorem test_clearDay :
    let t := after (.clearDay 0) (held .ops 0x13 [] (park .ended ⟨0, 20, 0⟩ (booked .operating)))
    t.day = .unset ∧ (t.att 7).state = .closed ∧ (t.att 7).q = 0 ∧ (t.att 7).windows = none := by decide +kernel

/-- Section 5.8: the list built at 667. -/
theorem test_configure_new :
    ((after (.configure 0) (held .ops 0x14 (9 :: descriptorBytes desc7) day)).att 9).windows =
      some (book.map fun x => { x with booked := 0, arrived := 0 }) := by decide +kernel

/-- Section 2.6, event 4: p = 30 gives FUTURE windows 135 and leaves the bookings. -/
theorem test_configure_used :
    let t := after (.configure 0) (held .ops 0x14 (7 :: descriptorBytes { desc7 with share := 30 }) day)
    ((t.att 7).window 11).map (fun x => (x.quota, x.booked)) = some (135, 176) ∧
      ((t.att 7).window 9).map (·.quota) = some 180 ∧ (t.att 7).generation = 1 ∧ (t.port 0).has .stale = true := by
  decide +kernel

theorem test_release : answer (.release 0) (held .ops 0x15 [7] (withPass 5 .expired (park .opened at1107 shut))) = some (0x0E, []) ∧
    (after (.release 0) (held .ops 0x15 [7] (park .opened at1107 shut))).att 7 = .unused := by decide +kernel

/-- Section 2.6, events 2 and 3. -/
theorem test_setStateOperating :
    let t := after (.setStateOperating 0) (held .ops 0x16 [7, 2] (park .armed ⟨8, 30, 0⟩ shut))
    answer (.setStateOperating 0) (held .ride 0x16 [7, 2] (park .armed ⟨8, 20, 0⟩ shut)) = some (0x0D, []) ∧
      (t.att 7).throughput = 480 ∧ (t.att 7).ageCounter = 10 ∧ (t.att 7).posted = 5 := by decide +kernel

/-- R99: at 667 windows 7 to 9 slip, and no other. -/
theorem test_setStateDown :
    ((after (.setStateDown 0) (held .ride 0x16 [7, 3] day)).att 7).list.map (·.state) =
      List.replicate 5 .spent ++ List.replicate 2 .closed ++ List.replicate 3 .slipped ++ List.replicate 42 .future := by
  decide +kernel

/-- Section 2.6, events 7 and 8: refused from a RIDE port; the live windows and their passes are voided. -/
theorem test_setStateClosed :
    let t := after (.setStateClosed 0) (held .ops 0x16 [7, 1] day)
    answer (.setStateClosed 0) (held .ride 0x16 [7, 1] day) = some (0x03, []) ∧
      ((t.att 7).window 9).map (fun x => (x.state, x.endedAt)) = some (.void, some 667) ∧
      ((t.att 7).window 6).map (fun x => (x.state, x.endedAt)) = some (.closed, some 660) ∧
      t.slots[0].pass.map (·.state) = some .voided ∧ (t.att 7).q = 0 := by decide +kernel

/-- Section 3.6: a qualify field of 0 selects 20. -/
theorem test_bind : answer (.bind 0) (held .ops 0x17 [3, 0, 7, 0, 1, 0] day) = some (0x00, [3, 1, 7, 0, 1, 20, 2]) := by
  decide +kernel

theorem test_unbind : answer (.unbind 0) (held .ops 0x17 [3, 1, 99, 9, 9, 99] (day.setLine 3 (.armed turnstile true none))) =
    some (0x00, [3, 0, 0, 0, 0, 0, 2]) := by decide +kernel

/-- Section 3.6, an INQUIRE at time 200. -/
theorem test_inquire : answer (.inquire 0) (held .ops 0x17 [3, 2, 0, 0, 0, 0] (day.setLine 3 (.armed turnstile true none))) =
    some (0x00, [3, 2, 7, 0, 1, 20, 1]) := by decide +kernel

/-- R152: an IDLE line starts its frame at once. -/
theorem test_boardSet : answer (.boardSet 0) (held .ops 0x18 [1, 1, 11, 7, 1] day) = some (0x00, [1, 1, 11, 7, 1, 0]) ∧
    (after (.boardSet 0) (held .ops 0x18 [1, 1, 11, 7, 1] day)).board = .sending ⟨11, .ret, 11, 45, false, false, 0⟩ false := by
  decide +kernel

theorem test_boardSetClear : answer (.boardSetClear 0) (held .ops 0x18 [9, 0, 0, 99, 9] board) = some (0x00, [9, 0, 0, 0, 0, 0]) ∧
    (after (.boardSetClear 0) (held .ops 0x18 [9, 0, 0, 99, 9] board)).entries[9] = ⟨none, 0⟩ := by decide +kernel

/-- Section 8.7, step 8. -/
theorem test_boardOverride : answer (.boardOverride 0) (held .ops 0x19 [5, 3] board) = some (0x00, [5, 3]) ∧
    (after (.boardOverride 0) (held .ops 0x19 [5, 3] board)).dirty[5] = true := by decide +kernel

/-! ## Counts -/

/-- Section 3.1: 63 guests to 65500 leave 65535; section 9.4: the argument is looked at before the attraction. -/
theorem test_entryReport :
    answer (.entryReport 0) (held .ride 0x20 [7, 63] (park .opened at1107 { ride .operating with q := 65500 })) =
        some (0x00, [0xFF, 0xFF, 0, 40]) ∧
      answer (.entryReport 0) (held .ride 0x20 [22, 70] day) = some (0x04, []) := by decide +kernel

/-- Section 3.2, case A. -/
theorem test_dispatchReport : answer (.dispatchReport 0) (held .ride 0x21 [7, 24] day) = some (0x00, [20, 0x02, 0x4E, 0, 30]) := by
  decide +kernel

/-- Section 3.2, cases B to F. -/
theorem test_dispatch_splits :
    [(100, 4, 20), (3, 30, 20), (2, 1, 20), (600, 40, lineRiders desc7), (600, 40, 0)].map
        (fun x => let y := dispatch x.2.2 { ride .operating with q := x.1, m := x.2.1 }; (y.q, y.m, y.riders)) =
      [(84, 0, 20), (0, 13, 20), (0, 0, 20), (591, 31, 18), (600, 40, 0)] := by decide

/-- Section 3.7, event 5. -/
theorem test_queueSet : answer (.queueSet 0) (held .ops 0x22 [7, 0x02, 0x30] day) = some (0x00, [0x02, 0x30, 0, 40]) := by
  decide +kernel

/-! ## Passes -/

/-- Section 5.7, event 1: window 11, and the offer moves to 12:00; the second slot's first id is 4097. -/
theorem test_issueEarliest : answer (.issueEarliest 0) (held .issue 0x30 [0, 0, 4] day) =
      some (0x00, [0x10, 0x01, 11, 0x02, 0xC1, 0x02, 0xD0]) ∧
    ((after (.issueEarliest 0) (held .issue 0x30 [0, 0, 4] day)).att 7).offer = some 720 := by decide +kernel

/-- Section 5.7, events 5, 6 and 7. -/
theorem test_issueAt : answer (.issueAt 0) (held .issue 0x30 [1, 9, 1] day) = some (0x12, []) ∧
    answer (.issueAt 0) (held .issue 0x30 [1, 6, 2] day) = some (0x10, []) ∧
    answer (.issueAt 0) (held .issue 0x30 [1, 52, 1] day) = some (0x04, []) := by decide +kernel

/-- Section 5.7: window 11 opens at 695; R123: a party joins M and A. -/
theorem test_redeem :
    let t := after (.redeem 0) (held .issue 0x31 [0x10, 0x00] (withPass 9 .issued day))
    answer (.redeem 0) (held .issue 0x31 [0x10, 0x00] day) = some (0x1C, [0x02, 0xB7]) ∧ (t.att 7).m = 43 ∧
      ((t.att 7).window 9).map (·.arrived) = some 43 ∧ t.slots[0].pass.map (·.state) = some .redeemed := by decide +kernel

/-- Section 6.11, event 4: the slot keeps its generation. -/
theorem test_cancel :
    let t := after (.cancel 0) (held .issue 0x32 [0x10, 0x00] day)
    answer (.cancel 0) (held .issue 0x32 [0x10, 0x00] day) = some (0x00, [7, 11, 3]) ∧ t.slots[0] = ⟨1, none⟩ ∧
      ((t.att 7).window 11).map (·.booked) = some 173 := by decide +kernel

/-! ## States that meet the hypotheses of the statements

One theorem for each statement with hypotheses; each of its parts is a state that meets those of one clause, at a boundary
value where the clause has a range. -/

/-- A settled state with a request in hand at Port 0, of a role, a kind and arguments, that meets a further condition. -/
def Case (role : Role) (kind : Byte) (args : List Byte) (P : State → Prop) : Prop :=
  ∃ s, Settled s ∧ Sent s 0 kind args ∧ (s.port 0).role = role ∧ P s

theorem held_port (role : Role) (kind : Byte) (args : List Byte) (b : State) (q : PortNo) :
    (held role kind args b).port q =
      if q = 0 then { (settle b).port 0 with role := role, link := .working (requestFrame kind args) } else (settle b).port q :=
  port_updPort _ _ _ _

theorem held_has (role : Role) (kind : Byte) (args : List Byte) (b : State) (q : PortNo) (k : EventKind) :
    ((held role kind args b).port q).has k = ((settle b).port q).has k := by
  rw [held_port]
  split
  · next h => subst h; rfl
  · rfl

theorem settled_held (role : Role) (kind : Byte) (args : List Byte) (b : State) : Settled (held role kind args b) where
  postings := (settled_settle b).postings
  stale q := by
    rw [held_has, (settled_settle b).stale q, held_port]
    split
    · next h => subst h; rfl
    · rfl
  aged q := by rw [held_has, (settled_settle b).aged q]; rfl
  posting q := by
    rw [held_has, (settled_settle b).posting q, held_port]
    split
    · next h => subst h; rfl
    · rfl

theorem meets {role : Role} {kind : Byte} {args : List Byte} {P : State → Prop} (b : State)
    (hf : openFrame (requestFrame kind args) = some args) (hp : P (held role kind args b)) : Case role kind args P :=
  ⟨held role kind args b, settled_held .., ⟨requestFrame kind args, by rw [held_port]; rfl, rfl, hf⟩,
    by rw [held_port]; rfl, hp⟩

theorem counts {s : State}
    (h : ∀ a, ((s.att a).q ≤ 65535 ∧ (s.att a).m ≤ 65535 ∧ (s.att a).riders ≤ 4095) ∧
      ((s.att a).state = .closed ∨ (s.att a).state = .unused → (s.att a).q = 0 ∧ (s.att a).m = 0 ∧ (s.att a).riders = 0)) :
    CountsLaw s := ⟨fun a => (h a).1.1, fun a => (h a).1.2.1, fun a => (h a).1.2.2, fun a => (h a).2⟩

theorem records {s : State}
    (h : ∀ a, ((s.att a).state ≠ .unused → (s.att a).desc.inRange = true ∧ (s.att a).desc.combines = true) ∧
      ((s.att a).state = .unused → s.att a = .unused)) : RecordsLaw s := ⟨fun a => (h a).1, fun a => (h a).2⟩

theorem boards {s : State} (h : (∀ e, s.dirty[e] = true → s.valid e = true) ∧ (s.board = .idle → s.anyValid = false)) :
    BoardLaw s := ⟨h.1, h.2⟩

theorem bookable {o now : Nat} {r : Attraction} {n w : Nat} : Bookable o now r n w ↔ canBook o now r n w = true := by
  unfold Bookable canBook earliestStart windowStart
  cases r.window w <;> simp [and_assoc]

theorem quiet {x : Line} {level : Bool} (h : x = .unbound) : ¬ BringsCount x level := by
  rintro ⟨b, st, c, rfl, _⟩
  cases h

/-! ### Ticks -/

theorem witness_LineReset : Settled (settle day) := settled_settle day

theorem witness_SecondTick :
    (∃ s : State, Settled s ∧ s.clock.Valid ∧ s.pendingClock = none ∧ s.clock.seconds = 58) ∧
    (∃ s : State, Settled s ∧ s.clock.Valid ∧ s.pendingClock = none ∧ s.clock = ⟨23, 59, 59⟩) ∧
    (∃ s : State, ∃ v : Time, Settled s ∧ s.pendingClock = some v ∧ s.day = .opened ∧ v.second + 1 = s.clock.second) ∧
    (∃ s : State, ∃ v : Time, Settled s ∧ s.pendingClock = some v ∧ s.day = .opened ∧ v.second = s.clock.second + 3601) ∧
    (∃ s : State, ∃ v : Time, Settled s ∧ s.pendingClock = some v ∧ s.day = .opened ∧ v.second = s.clock.second + 3600) ∧
    (∃ s : State, ∃ v : Time, Settled s ∧ s.pendingClock = some v ∧ s.day = .opened ∧ v.second + 1 = s.clock.second ∧
      s.nextReading.minute = s.clock.minute) ∧
    (∃ s : State, ∃ v : Time, Settled s ∧ s.pendingClock = some v ∧ s.day = .opened ∧ v.second = s.clock.second ∧
      s.nextReading.minute = s.clock.minute) ∧
    ∃ s : State, ∃ v : Time, Settled s ∧ s.pendingClock = some v ∧ s.day = .armed ∧ v.second < s.clock.second ∧
      s.nextReading.minute = s.clock.minute :=
  ⟨⟨settle (park .opened ⟨11, 6, 58⟩ shut), settled_settle _, by simp [park, Time.Valid], rfl, rfl⟩,
    ⟨settle (park .ended ⟨23, 59, 59⟩ shut), settled_settle _, by simp [park, Time.Valid], rfl, rfl⟩,
    ⟨settle { day with pendingClock := some ⟨11, 7, 9⟩ }, ⟨11, 7, 9⟩, settled_settle _, rfl, rfl, by decide +kernel⟩,
    ⟨settle { day with pendingClock := some ⟨12, 7, 11⟩ }, ⟨12, 7, 11⟩, settled_settle _, rfl, rfl, by decide +kernel⟩,
    ⟨settle { day with pendingClock := some ⟨12, 7, 10⟩ }, ⟨12, 7, 10⟩, settled_settle _, rfl, rfl, by decide +kernel⟩,
    ⟨settle { day with pendingClock := some ⟨11, 7, 9⟩ }, ⟨11, 7, 9⟩, settled_settle _, rfl, rfl, by decide +kernel⟩,
    ⟨settle { day with pendingClock := some ⟨11, 7, 10⟩ }, ⟨11, 7, 10⟩, settled_settle _, rfl, rfl, by decide +kernel⟩,
    ⟨settle { day with day := .armed, pendingClock := some ⟨11, 7, 9⟩ }, ⟨11, 7, 9⟩, settled_settle _, rfl, rfl,
      by decide +kernel⟩⟩

theorem witness_MinuteTickEstimates :
    (∃ s : State, s.minuteDue = true ∧ Settled s ∧ (s.att 7).state = .operating ∧ (s.att 7).ageCounter = 9 ∧
      (s.att 7).windows = some book) ∧
    (∃ s : State, s.minuteDue = true ∧ (s.att 7).state = .operating ∧ (s.att 7).aged = false ∧ (s.att 7).ageCounter = 1) ∧
    (∃ s : State, s.minuteDue = true ∧ (s.att 7).state = .operating ∧ (s.att 7).aged = false ∧ (s.att 7).ageCounter = 2 ∧
      (s.att 7).windows = none) ∧
    (∃ s : State, s.minuteDue = true ∧ (s.att 7).state = .operating ∧ (s.att 7).aged = true) ∧
    ∃ s : State, s.minuteDue = true ∧ (s.att 7).state = .down ∧ (s.att 6).state = .unused :=
  ⟨⟨settle (park .opened to1107 (booked .operating)), by decide +kernel, settled_settle _, by decide +kernel⟩,
    ⟨park .opened to1107 { ride .operating with ageCounter := 1 }, by decide +kernel⟩,
    ⟨park .opened to1107 { ride .operating with ageCounter := 2 }, by decide +kernel⟩,
    ⟨park .opened to1107 { ride .operating with aged := true, ageCounter := 0 }, by decide +kernel⟩,
    ⟨park .opened to1107 (ride .down), by decide +kernel⟩⟩

theorem witness_FrameAtMinuteTick :
    (∃ s : State, s.minuteDue = true ∧ s.day = .armed ∧ s.nextReading.minute + 1 = s.o) ∧
    (∃ s : State, s.minuteDue = true ∧ s.day = .armed ∧ s.nextReading.minute = s.o ∧ s.nextReading.minute < s.z) ∧
    (∃ s : State, s.minuteDue = true ∧ s.day = .armed ∧ s.o ≤ s.nextReading.minute ∧ s.nextReading.minute = s.z) ∧
    (∃ s : State, s.minuteDue = true ∧ s.day = .opened ∧ s.nextReading.minute + 1 = s.z) ∧
    (∃ s : State, s.minuteDue = true ∧ s.day = .opened ∧ s.nextReading.minute = s.z) ∧
    ∃ s : State, s.minuteDue = true ∧ s.day = .ended :=
  ⟨⟨park .armed ⟨8, 58, 59⟩ shut, by decide +kernel⟩, ⟨park .armed ⟨8, 59, 59⟩ shut, by decide +kernel⟩,
    ⟨park .armed ⟨21, 59, 59⟩ shut, by decide +kernel⟩, ⟨park .opened ⟨21, 58, 59⟩ shut, by decide +kernel⟩,
    ⟨park .opened ⟨21, 59, 59⟩ shut, by decide +kernel⟩, ⟨park .ended ⟨23, 59, 59⟩ shut, by decide +kernel⟩⟩

theorem witness_FrameEnd : (∃ s : State, s.minuteDue = true ∧ s.day = .armed ∧ s.o ≤ s.nextReading.minute ∧
    s.z = s.nextReading.minute ∧ (s.att 7).windows = some book) ∧ ∃ s : State, s.minuteDue = true ∧ s.day = .opened ∧ s.z = s.nextReading.minute ∧
    s.slots[0].pass.isSome = true ∧ (s.att 7).windows = some book :=
  ⟨⟨park .armed ⟨21, 59, 59⟩ (booked .operating), by decide +kernel⟩,
    ⟨withPass 11 .issued (park .opened ⟨21, 59, 59⟩ (booked .operating)), by decide +kernel⟩⟩

/-- At 11:15 window 7 closes and window 5 retires; at 11:20 window 10 opens, or slips where the ride is DOWN. -/
theorem witness_WindowsAtMinuteTick :
    (∃ s : State, s.minuteDue = true ∧ s.nextReading.minute = 675 ∧ s.day = .opened ∧ s.openMinute = some 540 ∧
      s.closeMinute = some 1320 ∧ (s.att 7).window 7 = some (bookAt 7) ∧ (bookAt 7).state = .opened ∧
      (s.att 7).window 5 = some (bookAt 5) ∧ (bookAt 5).state = .closed ∧ s.slots[0].pass.isSome = true) ∧
    (∃ s : State, s.minuteDue = true ∧ s.nextReading.minute = 680 ∧ s.day = .opened ∧ s.openMinute = some 540 ∧
      s.closeMinute = some 1320 ∧ (s.att 7).window 10 = some (bookAt 10) ∧ (bookAt 10).state = .future ∧
      (s.att 7).state = .operating) ∧
    (∃ s : State, s.minuteDue = true ∧ s.nextReading.minute = 540 ∧ s.day = .armed ∧ s.openMinute = some 540 ∧
      s.closeMinute = some 1320 ∧ (s.att 7).window 10 = some (bookAt 10) ∧ (s.att 7).state = .down) ∧
    (∃ s : State, s.minuteDue = true ∧ s.day = .armed ∧ s.nextReading.minute + 1 = s.o ∧
      (s.att 7).window 10 = some (bookAt 10) ∧ (bookAt 10).state = .future) ∧
    (∃ s : State, s.minuteDue = true ∧ s.day = .ended ∧ (s.att 7).windows = some book) ∧
    ∃ s : State, s.minuteDue = true ∧ s.day = .unset :=
  ⟨⟨withPass 7 .issued (park .opened ⟨11, 14, 59⟩ (booked .operating)), by decide +kernel⟩,
    ⟨park .opened ⟨11, 19, 59⟩ (booked .operating), by decide +kernel⟩,
    ⟨park .armed ⟨8, 59, 59⟩ (booked .down), by decide +kernel⟩,
    ⟨park .armed ⟨8, 58, 59⟩ (booked .operating), by decide +kernel⟩,
    ⟨park .ended ⟨22, 30, 59⟩ (booked .operating), by decide +kernel⟩,
    ⟨{ State.reset with clock := ⟨0, 0, 59⟩ }, by decide +kernel⟩⟩

theorem witness_AgingTick : ∃ s : State, s.minuteDue = true ∧ (s.att 7).state = .operating ∧ (s.att 7).aged = false ∧
    (s.att 7).ageCounter = 1 := ⟨park .opened to1107 { ride .operating with ageCounter := 1 }, by decide +kernel⟩

/-- Window 5 holds a pass at its retirement. -/
theorem witness_Retirement : ∃ s : State, s.minuteDue = true ∧ s.day = .opened ∧ s.openMinute = some 540 ∧
    s.closeMinute = some 1320 ∧ s.nextReading.minute = 675 ∧ (s.att 7).window 5 = some (bookAt 5) ∧
    (bookAt 5).state = .closed ∧ max ((bookAt 5).endedAt.getD 0) 540 + 30 = 675 :=
  ⟨withPass 5 .expired (park .opened ⟨11, 14, 59⟩ (booked .operating)), by decide +kernel⟩

/-! ### Lines, the board line, the links -/

theorem witness_MillisecondSample : Settled (settle day) ∧ ∀ l : LineNo, ¬ BringsCount (settle day).lines[l] false :=
  ⟨settled_settle day, fun l => quiet ((by decide +kernel : ∀ l : LineNo, (settle day).lines[l] = .unbound) l)⟩

/-- CL5 of section 3.7: a DISPATCH line. -/
def contact : Binding := ⟨7, .dispatch, .falling, 20⟩

theorem records_setLine {s : State} (h : RecordsLaw s) (l : LineNo) (x : Line) : RecordsLaw (settle (s.setLine l x)) :=
  ⟨h.used, h.unused⟩

/-- The 11:07 state with one line bound, at the sample that settles it at the level given. -/
theorem sampled (b : Binding) (settled : Bool) (levels : Levels) :
    let s := settle (day.setLine 3 (.armed b settled (some 19)))
    Settled s ∧ RecordsLaw s ∧ s.lines[3] = .armed b settled (some 19) ∧
      ∀ x : LineNo, x ≠ 3 → ¬ BringsCount s.lines[x] levels[x] := by
  refine ⟨settled_settle _, records_setLine (records (by decide +kernel)) _ _, Vector.getElem_set_self .., fun x hx => quiet ?_⟩
  have h0 : ∀ x : LineNo, day.lines[x] = .unbound := by decide +kernel
  exact (Vector.getElem_set_ne (xs := day.lines) (i := 3) (by decide) x.isLt fun e => hx (Fin.ext e.symm)).trans (h0 x)

/-- A counting fall of an ENTRY line, a count of a DISPATCH line of an OPERATING attraction, and a release. -/
theorem witness_QualifiedTransition :
    (∃ s : State, Settled s ∧ RecordsLaw s ∧ s.lines[3] = .armed turnstile true (some 19) ∧ (0 : Levels)[3] ≠ true ∧
      turnstile.qualify = (some 19).getD 0 + 1 ∧ CountingEdge turnstile.edge (0 : Levels)[3] ∧
      ∀ x : LineNo, x ≠ 3 → ¬ BringsCount s.lines[x] (0 : Levels)[x]) ∧
    (∃ s : State, Settled s ∧ RecordsLaw s ∧ s.lines[3] = .armed contact true (some 19) ∧ (0 : Levels)[3] ≠ true ∧
      contact.qualify = (some 19).getD 0 + 1 ∧ CountingEdge contact.edge (0 : Levels)[3] ∧ (s.att 7).state = .operating ∧
      ∀ x : LineNo, x ≠ 3 → ¬ BringsCount s.lines[x] (0 : Levels)[x]) ∧
    ∃ s : State, Settled s ∧ RecordsLaw s ∧ s.lines[3] = .armed contact false (some 19) ∧ (8 : Levels)[3] ≠ false ∧
      contact.qualify = (some 19).getD 0 + 1 ∧ ¬ CountingEdge contact.edge (8 : Levels)[3] ∧
      ∀ x : LineNo, x ≠ 3 → ¬ BringsCount s.lines[x] (8 : Levels)[x] :=
  have h1 := sampled turnstile true 0
  have h2 := sampled contact true 0
  have h3 := sampled contact false 8
  ⟨⟨_, h1.1, h1.2.1, h1.2.2.1, by decide, rfl, (rfl : (0 : Levels)[3] = false), h1.2.2.2⟩,
    ⟨_, h2.1, h2.2.1, h2.2.2.1, by decide, rfl, (rfl : (0 : Levels)[3] = false), by decide +kernel, h2.2.2.2⟩,
    ⟨_, h3.1, h3.2.1, h3.2.2.1, by decide, rfl, (fun h => absurd (show (8 : Levels)[3] = false from h) (by decide)), h3.2.2.2⟩⟩

theorem witness_LineArming : ∃ s : State, Settled s ∧ s.lines[3] = .unarmed turnstile 19 true ∧ turnstile.qualify = 19 + 1 ∧
    turnstile.edge = .falling ∧ (8 : Levels)[3] = true :=
  ⟨settle (day.setLine 3 (.unarmed turnstile 19 true)), settled_settle _, by decide +kernel⟩

/-- A frame in flight over a list with entry 0 dirty, with none dirty, and with no valid entry. -/
theorem witness_FrameCompletionAndGapEnd :
    (∃ (s : State) (f : SignFrame), s.board = .sending f true ∧ s.dirty[0] = true ∧ s.entries[0].binding = some ⟨11, 7, .wait⟩) ∧
    (∃ (s : State) (f : SignFrame), s.board = .sending f false ∧ (∀ e : EntryNo, s.dirty[e] = false) ∧ NextInOrder s 9 ∧
      s.entries[9].binding = some ⟨31, 7, .wait⟩) ∧
    (∃ s : State, s.board = .resynchronising ∧ ∀ e, s.valid e = false) :=
  ⟨⟨{ board with dirty := board.dirty.set 0 true, board := .sending ⟨12, .closed, 0, 0, false, false, 0⟩ true },
      ⟨12, .closed, 0, 0, false, false, 0⟩, by decide +kernel⟩,
    ⟨{ board with refresh := 6, board := .sending ⟨12, .closed, 0, 0, false, false, 0⟩ false },
      ⟨12, .closed, 0, 0, false, false, 0⟩, rfl, by decide +kernel, ⟨by decide +kernel, .inl (by decide +kernel)⟩,
      by decide +kernel⟩,
    ⟨{ day with board := .resynchronising }, rfl, by decide +kernel⟩⟩

theorem witness_SelectFall : (∃ s : State, (s.port 0).period = none ∧ (s.port 0).link = .ready [0x10, 0x00, 0x00, 0xF0]) ∧
    (∃ s : State, (s.port 0).period = none ∧ (s.port 0).link = .working [0x01]) ∧
    ∃ s : State, (s.port 0).period = none ∧ (s.port 0).link = .idle :=
  ⟨⟨day.updPort 0 fun q => { q with link := .ready [0x10, 0x00, 0x00, 0xF0] }, by decide +kernel⟩,
    ⟨day.updPort 0 fun q => { q with link := .working [0x01] }, by decide +kernel⟩, ⟨day, by decide +kernel⟩⟩

/-- Bytes with and without a request, and seven bits left over. -/
theorem witness_SelectRise (x : Period) : (∃ s : State, (s.port 0).period = some x) ∧ (List.replicate 7 true).length < 8 ∧
    (∃ kind rest, List.replicate 36 (1 : Byte) = kind :: rest ∧ kind ≠ 0) ∧
    ∀ kind rest, List.replicate 4 (0 : Byte) = kind :: rest → kind = 0 :=
  ⟨⟨day.updPort 0 fun q => { q with period := some x }, by simp [State.port, State.updPort]⟩, by decide,
    ⟨1, List.replicate 35 1, rfl, by decide⟩, fun _ _ h => (List.cons.inj h).1.symm⟩

theorem witness_CommonChecks :
    (∃ s : State, (s.port 0).link = .working [0xFE, 0x21] ∧ openFrame [0xFE, 0x21] = none) ∧
    Case .view 0x0B [] (fun _ => (0x0B : Byte) ∉ knownKinds) ∧
    Case .view 0x32 [0, 0] (fun _ => (0x32 : Byte) ∈ knownKinds ∧ maySend .view 0x32 [0, 0] = false) ∧
    Case .ride 0x16 [] (fun _ => maySend .ride 0x16 [] = true ∧ argumentLength 0x16 ≠ 0) :=
  ⟨⟨day.updPort 0 fun q => { q with link := .working [0xFE, 0x21] }, by decide +kernel⟩,
    meets day (by decide) (by decide), meets day (by decide) (by decide), meets day (by decide) (by decide)⟩

/-! ### Requests every role may send -/

theorem witness_StatusAndReadClock : Case .view 0x01 [] (fun _ => True) ∧ Case .view 0x04 [] (fun _ => True) :=
  ⟨meets day (by decide) trivial, meets day (by decide) trivial⟩

theorem witness_AckAndSetEvents : Case .view 0x02 [0xFF] (fun _ => True) ∧ Case .view 0x03 [0xFF, 0] (fun _ => True) :=
  ⟨meets day (by decide) trivial, meets day (by decide) trivial⟩

theorem witness_Select : Case .view 0x05 [48] (fun _ => 47 < (48 : Byte).toNat) ∧
    Case .view 0x05 [47] (fun s => (s.att 47).state = .unused) ∧ Case .view 0x05 [7] (fun s => (s.att 7).state ≠ .unused) :=
  ⟨meets day (by decide) (by decide), meets day (by decide) (by decide +kernel), meets day (by decide) (by decide +kernel)⟩

theorem witness_ReadPosting : Case .view 0x06 [48] (fun _ => 47 < (48 : Byte).toNat) ∧
    Case .view 0x06 [47] (fun s => (s.att 47).state = .unused) ∧ Case .view 0x06 [7] (fun s => (s.att 7).state = .operating) :=
  ⟨meets day (by decide) (by decide), meets day (by decide) (by decide +kernel), meets day (by decide) (by decide +kernel)⟩

theorem witness_ReadChanged : Case .view 0x07 [] (fun s => (s.port 0).changed[7] = true) :=
  meets day (by decide) (by decide +kernel)

theorem witness_ReadWindows : Case .view 0x08 [0, 9] (fun _ => 8 < (9 : Byte).toNat) ∧
    Case .view 0x08 [0, 8] (fun s => (s.port 0).shadow = none) ∧
    Case .view 0x08 [0, 1] (fun s => ∃ x, (s.port 0).shadow = some x ∧ x.generation ≠ (s.att x.attraction).generation) ∧
    Case .view 0x08 [51, 8] (fun s => ∃ x, (s.port 0).shadow = some x ∧ x.generation = (s.att x.attraction).generation) :=
  ⟨meets day (by decide) (by decide), meets State.reset (by decide) (by decide +kernel),
    meets (day.setAtt 7 { booked .operating with generation := 1 }) (by decide) ⟨⟨7, 0, 15, 40, 10, 52⟩, by decide +kernel⟩,
    meets day (by decide) ⟨⟨7, 0, 15, 40, 10, 52⟩, by decide +kernel⟩⟩

theorem witness_ReadPass : Case .view 0x09 [0x10, 0x01] (fun s => s.slots[1].pass = none) ∧
    Case .view 0x09 [0x20, 0x00] (fun s => s.slots[0].generation ≠ 2) ∧
    Case .view 0x09 [0x10, 0x00] (fun s => s.slots[0].pass.isSome = true ∧ s.slots[0].generation = 1 ∧
      (s.att 7).window 11 = some (bookAt 11)) :=
  ⟨meets day (by decide) (by decide +kernel), meets day (by decide) (by decide +kernel), meets day (by decide) (by decide +kernel)⟩

theorem witness_ReadAttraction : Case .view 0x0A [48] (fun _ => 47 < (48 : Byte).toNat) ∧
    Case .view 0x0A [47] (fun s => (s.att 47).state = .unused) ∧ Case .view 0x0A [7] (fun s => (s.att 7).state ≠ .unused) :=
  ⟨meets day (by decide) (by decide), meets day (by decide) (by decide +kernel), meets day (by decide) (by decide +kernel)⟩

/-! ### Requests of the operations master -/

theorem witness_SetClock : Case .ops 0x10 [24, 0, 0] (fun _ => ¬ Time.Valid ⟨24, 0, 0⟩) ∧
    Case .ops 0x10 [11, 7, 9] (fun s => s.day = .opened ∧ Time.Valid ⟨11, 7, 9⟩ ∧ Time.second ⟨11, 7, 9⟩ + 1 = s.clock.second) ∧
    Case .ops 0x10 [12, 7, 11] (fun s => s.day = .opened ∧ Time.Valid ⟨12, 7, 11⟩ ∧
      Time.second ⟨12, 7, 11⟩ = s.clock.second + 3601) ∧
    Case .ops 0x10 [12, 7, 10] (fun s => s.day = .opened ∧ Time.Valid ⟨12, 7, 10⟩ ∧
      Time.second ⟨12, 7, 10⟩ = s.clock.second + 3600) :=
  ⟨meets day (by decide) (by simp [Time.Valid]),
    meets day (by decide) ⟨rfl, by simp [Time.Valid], by decide +kernel⟩,
    meets day (by decide) ⟨rfl, by simp [Time.Valid], by decide +kernel⟩,
    meets day (by decide) ⟨rfl, by simp [Time.Valid], by decide +kernel⟩⟩

/-- A frame state with O, Z and the clock-set flag as given, at 07:15. -/
def early (d : DayState) (o z : Option Nat) (clockSet : Bool) : State :=
  { park d ⟨7, 15, 0⟩ shut with openMinute := o, closeMinute := z, clockSet := clockSet }

theorem witness_FrameOpen : Case .ops 0x11 [0x05, 0xA0] (fun _ => 1439 < u16 0x05 0xA0) ∧
    Case .ops 0x11 [0x05, 0x9F] (fun s => u16 0x05 0x9F = 1439 ∧ s.day = .unset ∧ s.clockSet = false) ∧
    Case .ops 0x11 [0x02, 0x1C] (fun s => s.clockSet = true ∧ s.day = .opened) ∧
    Case .ops 0x11 [0x02, 0x1C] (fun s => s.clockSet = true ∧ s.day = .unset) ∧
    Case .ops 0x11 [0x02, 0x1C] (fun s => s.clockSet = true ∧ s.day = .half ∧ s.openMinute ≠ none) ∧
    Case .ops 0x11 [0x02, 0x1C] (fun s => s.clockSet = true ∧ s.day = .armed) ∧
    Case .ops 0x11 [0x05, 0x0B] (fun s => s.day = .half ∧ s.openMinute = none ∧ s.closeMinute = some 1320 ∧ ¬ (1291 + 30 ≤ 1320)) ∧
    Case .ops 0x11 [0x05, 0x0A] (fun s => s.day = .half ∧ s.openMinute = none ∧ s.closeMinute = some 1320 ∧ 1290 + 30 ≤ 1320 ∧
      s.now < 1320 ∧ s.clockSet = false) ∧
    Case .ops 0x11 [0x05, 0x0A] (fun s => s.day = .half ∧ s.openMinute = none ∧ s.closeMinute = some 1320 ∧ 1290 + 30 ≤ 1320 ∧
      s.now < 1320 ∧ s.clockSet = true) :=
  ⟨meets day (by decide) (by decide), meets (early .unset none none false) (by decide) (by decide +kernel),
    meets day (by decide) (by decide +kernel), meets (early .unset none none true) (by decide) (by decide +kernel),
    meets (early .half (some 540) none true) (by decide) (by decide +kernel),
    meets (early .armed (some 540) (some 1320) true) (by decide) (by decide +kernel),
    meets (early .half none (some 1320) true) (by decide) (by decide +kernel),
    meets (early .half none (some 1320) false) (by decide) (by decide +kernel),
    meets (early .half none (some 1320) true) (by decide) (by decide +kernel)⟩

theorem witness_FrameClose : Case .ops 0x12 [0x05, 0xA0] (fun _ => 1439 < u16 0x05 0xA0) ∧
    Case .ops 0x12 [0x05, 0x9F] (fun s => s.day = .unset ∧ s.clockSet = false) ∧
    Case .ops 0x12 [0x05, 0x28] (fun s => s.clockSet = true ∧ s.day = .ended) ∧
    Case .ops 0x12 [0x05, 0x28] (fun s => s.clockSet = true ∧ s.day = .unset) ∧
    Case .ops 0x12 [0x05, 0x28] (fun s => s.clockSet = true ∧ s.day = .half ∧ s.closeMinute ≠ none) ∧
    Case .ops 0x12 [0x05, 0x28] (fun s => s.clockSet = true ∧ s.day = .armed) ∧
    Case .ops 0x12 [0x02, 0x39] (fun s => s.day = .half ∧ s.closeMinute = none ∧ s.openMinute = some 540 ∧ ¬ (540 + 30 ≤ 569)) ∧
    Case .ops 0x12 [0x02, 0x3A] (fun s => s.day = .half ∧ s.closeMinute = none ∧ s.openMinute = some 540 ∧ 540 + 30 ≤ 570 ∧
      s.now < 570 ∧ s.clockSet = false) ∧
    Case .ops 0x12 [0x02, 0x3A] (fun s => s.day = .half ∧ s.closeMinute = none ∧ s.openMinute = some 540 ∧ 540 + 30 ≤ 570 ∧
      s.now < 570 ∧ s.clockSet = true) :=
  ⟨meets day (by decide) (by decide), meets (early .unset none none false) (by decide) (by decide +kernel),
    meets (park .ended ⟨23, 0, 0⟩ shut) (by decide) (by decide +kernel),
    meets (early .unset none none true) (by decide) (by decide +kernel),
    meets (early .half none (some 1320) true) (by decide) (by decide +kernel),
    meets (early .armed (some 540) (some 1320) true) (by decide) (by decide +kernel),
    meets (early .half (some 540) none true) (by decide) (by decide +kernel),
    meets (early .half (some 540) none false) (by decide) (by decide +kernel),
    meets (early .half (some 540) none true) (by decide) (by decide +kernel)⟩

/-- At 11:07 the new Z 668 is too near, 669 is not; 1290 cuts windows 50 and 51, free or booked; 1380 lengthens. -/
theorem witness_MoveClose :
    Case .ops 0x12 [0x02, 0x9C] (fun s => s.day = .opened ∧ s.openMinute = some 540 ∧ s.closeMinute = some 1320 ∧
      u16 0x02 0x9C + 1 = s.now + 2) ∧
    Case .ops 0x12 [0x02, 0x9D] (fun s => s.day = .opened ∧ s.openMinute = some 540 ∧ s.closeMinute = some 1320 ∧
      u16 0x02 0x9D = s.now + 2 ∧ s.clockSet = false) ∧
    Case .ops 0x12 [0x05, 0x28] (fun s => s.day = .opened ∧ s.closeMinute = some (u16 0x05 0x28) ∧ s.clockSet = true) ∧
    Case .ops 0x12 [0x05, 0x0A] (fun s => s.day = .opened ∧ s.clockSet = true ∧ ∃ x, (s.att 7).window 51 = some x ∧
      min 64 ((1290 - 540) / (s.att 7).desc.length) ≤ 51 ∧ 0 < x.booked) ∧
    Case .ops 0x12 [0x05, 0x0A] (fun s => s.day = .opened ∧ s.clockSet = true ∧ ∀ a w x, (s.att a).window w = some x →
      min 64 ((1290 - 540) / (s.att a).desc.length) ≤ w → x.state = .future ∧ x.booked = 0) ∧
    Case .ops 0x12 [0x05, 0x64] (fun s => s.day = .opened ∧ s.closeMinute = some 1320 ∧ 1320 < u16 0x05 0x64 ∧ s.clockSet = true) := by
  refine ⟨meets day (by decide) (by decide +kernel), meets { day with clockSet := false } (by decide) (by decide +kernel),
    meets day (by decide) (by decide +kernel),
    meets (day.updAtt 7 fun r => r.updWindow 51 fun x => { x with booked := 1 }) (by decide)
      ⟨rfl, rfl, { bookAt 51 with booked := 1 }, by decide +kernel⟩,
    meets day (by decide) ⟨rfl, rfl, fun a w x hx hw => ?_⟩, meets day (by decide) (by decide +kernel)⟩
  have hlen : ∀ a, ((held .ops 0x12 [0x05, 0x0A] day).att a).list.length ≤ if a = 7 then 52 else 0 := by decide +kernel
  have hlt : w < ((held .ops 0x12 [0x05, 0x0A] day).att a).list.length := (List.getElem?_eq_some_iff.mp hx).1
  have ha : a = 7 := by
    by_contra hne
    have h := hlen a
    rw [if_neg hne] at h
    omega
  subst ha
  have hb : w < 52 := lt_of_lt_of_le hlt (hlen 7)
  have hl : 50 ≤ w := le_trans (by decide +kernel) hw
  have hall : ∀ w, w < 52 → 50 ≤ w → ((held .ops 0x12 [0x05, 0x0A] day).att 7).window w = some (bookAt w) := by decide +kernel
  rw [hall w hb hl] at hx
  cases hx
  exact (by decide : ∀ w, w < 52 → 50 ≤ w → (bookAt w).state = .future ∧ (bookAt w).booked = 0) w hb hl

theorem witness_ClearDay : Case .ops 0x13 [] (fun s => s.day = .opened) ∧
    Case .ops 0x13 [] (fun s => s.day ≠ .opened ∧ (s.att 7).state = .operating) :=
  ⟨meets day (by decide) rfl, meets (park .ended ⟨0, 20, 0⟩ (booked .operating)) (by decide) (by decide +kernel)⟩

/-! ### The attraction table -/

theorem held_slots (role : Role) (kind : Byte) (args : List Byte) (b : State) : (held role kind args b).slots = b.slots := rfl

theorem held_att (role : Role) (kind : Byte) (args : List Byte) (b : State) (a : AttrNo) :
    (held role kind args b).att a = b.att a := rfl

theorem witness_ConfigureNew :
    Case .ops 0x14 (48 :: descriptorBytes desc7) (fun s => RecordsLaw s ∧ readDescriptor (descriptorBytes desc7) = some desc7) ∧
    Case .ops 0x14 (47 :: descriptorBytes { desc7 with rate := 59 }) (fun s => RecordsLaw s ∧
      Descriptor.inRange { desc7 with rate := 59 } = false) ∧
    Case .ops 0x14 (47 :: descriptorBytes { desc7 with mergeShare := 0 }) (fun s => RecordsLaw s ∧
      Descriptor.inRange { desc7 with mergeShare := 0 } = true ∧ Descriptor.combines { desc7 with mergeShare := 0 } = false) ∧
    Case .ops 0x14 (47 :: descriptorBytes desc7) (fun s => RecordsLaw s ∧ desc7.inRange = true ∧ desc7.combines = true ∧
      (s.att 47).state = .unused ∧ s.day = .opened) ∧
    Case .ops 0x14 (47 :: descriptorBytes desc7) (fun s => RecordsLaw s ∧ (s.att 47).state = .unused ∧ s.day = .ended) :=
  ⟨meets day (by decide) ⟨records (by decide +kernel), by decide⟩, meets day (by decide) ⟨records (by decide +kernel), by decide⟩,
    meets day (by decide) ⟨records (by decide +kernel), by decide⟩,
    meets day (by decide) ⟨records (by decide +kernel), by decide +kernel⟩,
    meets (park .ended ⟨23, 0, 0⟩ shut) (by decide) ⟨records (by decide +kernel), by decide +kernel⟩⟩

theorem witness_ConfigureUsed :
    Case .ops 0x14 (7 :: descriptorBytes { desc7 with length := 5 }) (fun s => (s.att 7).state ≠ .unused ∧
      (s.att 7).desc.length ≠ 5 ∧ s.day = .opened) ∧
    Case .ops 0x14 (7 :: descriptorBytes { desc7 with length := 5 }) (fun s => (s.att 7).state = .closed ∧
      (s.att 7).desc.length ≠ 5 ∧ s.day = .armed) ∧
    Case .ops 0x14 (7 :: descriptorBytes desc7) (fun s => (s.att 7).state = .operating ∧ (s.att 7).desc.length = 15 ∧
      ∃ x, (s.port 0).shadow = some x ∧ x.attraction = 7 ∧ x.generation = (s.att 7).generation) :=
  ⟨meets day (by decide) (by decide +kernel), meets (park .armed ⟨7, 40, 0⟩ shut) (by decide) (by decide +kernel),
    meets day (by decide) ⟨by decide +kernel, by decide +kernel, ⟨7, 0, 15, 40, 10, 52⟩, by decide +kernel⟩⟩

theorem witness_Release : Case .ops 0x15 [48] (fun _ => 47 < (48 : Byte).toNat) ∧
    Case .ops 0x15 [47] (fun s => (s.att 47).state = .unused) ∧ Case .ops 0x15 [7] (fun s => (s.att 7).state = .operating) ∧
    Case .ops 0x15 [7] (fun s => (s.att 7).state = .closed ∧ ∃ r, s.slots[0].pass = some r ∧ r.attraction = 7) ∧
    Case .ops 0x15 [7] (fun s => (s.att 7).state = .closed ∧
      ∀ (i : SlotNo) (r : Pass), s.slots[i].pass = some r → r.attraction ≠ 7) :=
  ⟨meets day (by decide) (by decide), meets day (by decide) (by decide +kernel), meets day (by decide) (by decide +kernel),
    meets (withPass 5 .expired (park .opened at1107 shut)) (by decide)
      ⟨by decide +kernel, ⟨7, 5, 3, .expired, 666, 2, none⟩, by decide +kernel⟩,
    meets (park .opened at1107 shut) (by decide) ⟨by decide +kernel, fun i r h => by
      simp [held_slots, park, State.updPort, State.reset, State.powerOn] at h⟩⟩

theorem witness_SetStateOperating : Case .ride 0x16 [48, 0] (fun _ => True) ∧ Case .ops 0x16 [47, 4] (fun _ => True) ∧
    Case .ops 0x16 [48, 2] (fun _ => 47 < (48 : Byte).toNat) ∧
    Case .ride 0x16 [47, 2] (fun s => (s.att 47).state = .unused) ∧ Case .ride 0x16 [7, 2] (fun s => (s.att 7).state = .closed) ∧
    Case .ride 0x16 [7, 2] (fun s => (s.att 7).state = .operating) ∧ Case .ops 0x16 [7, 2] (fun s => (s.att 7).state = .closed) ∧
    Case .ride 0x16 [7, 2] (fun s => (s.att 7).state = .down) :=
  ⟨meets day (by decide) trivial, meets day (by decide) trivial, meets day (by decide) (by decide), meets day (by decide) (by decide +kernel),
    meets (park .armed ⟨8, 20, 0⟩ shut) (by decide) (by decide +kernel), meets day (by decide) (by decide +kernel),
    meets (park .armed ⟨8, 20, 0⟩ shut) (by decide) (by decide +kernel),
    meets (park .opened at1107 (booked .down)) (by decide) (by decide +kernel)⟩

theorem witness_SetStateDown : Case .ops 0x16 [48, 3] (fun _ => 47 < (48 : Byte).toNat) ∧
    Case .ride 0x16 [47, 3] (fun s => (s.att 47).state = .unused) ∧ Case .ops 0x16 [7, 3] (fun s => (s.att 7).state = .closed) ∧
    Case .ride 0x16 [7, 3] (fun s => (s.att 7).state = .down) ∧ Case .ride 0x16 [7, 3] (fun s => (s.att 7).state = .operating) :=
  ⟨meets day (by decide) (by decide), meets day (by decide) (by decide +kernel),
    meets (park .armed ⟨8, 20, 0⟩ shut) (by decide) (by decide +kernel),
    meets (park .opened at1107 (booked .down)) (by decide) (by decide +kernel), meets day (by decide) (by decide +kernel)⟩

theorem witness_SetStateClosed : Case .ride 0x16 [7, 1] (fun _ => Role.ride ≠ .ops) ∧
    Case .ops 0x16 [48, 1] (fun _ => 47 < (48 : Byte).toNat) ∧ Case .ops 0x16 [47, 1] (fun s => (s.att 47).state = .unused) ∧
    Case .ops 0x16 [7, 1] (fun s => (s.att 7).state = .closed) ∧
    Case .ops 0x16 [7, 1] (fun s => (s.att 7).state = .operating ∧ s.slots[0].pass = some ⟨7, 11, 3, .issued, 666, 2, none⟩ ∧
      (s.att 7).window 11 = some (bookAt 11)) :=
  ⟨meets day (by decide) (by decide), meets day (by decide) (by decide), meets day (by decide) (by decide +kernel),
    meets (park .armed ⟨8, 20, 0⟩ shut) (by decide) (by decide +kernel), meets day (by decide) (by decide +kernel)⟩

/-! ### Lines and board entries -/

theorem witness_Bind : Case .ops 0x17 [16, 0, 47, 1, 2, 60] (fun _ => 15 < (16 : Byte).toNat) ∧
    Case .ops 0x17 [15, 0, 48, 1, 2, 60] (fun _ => 47 < (48 : Byte).toNat) ∧
    Case .ops 0x17 [15, 0, 47, 2, 2, 60] (fun _ => 1 < (2 : Byte).toNat) ∧
    Case .ops 0x17 [15, 0, 47, 1, 3, 60] (fun _ => 2 < (3 : Byte).toNat) ∧
    Case .ops 0x17 [15, 0, 47, 1, 2, 61] (fun _ => 60 < (61 : Byte).toNat) ∧
    Case .ops 0x17 [15, 0, 47, 1, 2, 1] (fun _ => True) ∧
    Case .ops 0x17 [15, 0, 47, 1, 2, 60] (fun s => (s.att 47).state = .unused) ∧
    Case .ops 0x17 [15, 0, 7, 1, 2, 0] (fun s => (s.att 7).state ≠ .unused) :=
  ⟨meets day (by decide) (by decide), meets day (by decide) (by decide), meets day (by decide) (by decide),
    meets day (by decide) (by decide), meets day (by decide) (by decide), meets day (by decide) trivial,
    meets day (by decide) (by decide +kernel), meets day (by decide) (by decide +kernel)⟩

theorem witness_UnbindAndInquire : Case .ops 0x17 [0, 3, 0, 0, 0, 0] (fun _ => 2 < (3 : Byte).toNat) ∧
    Case .ops 0x17 [16, 1, 0, 0, 0, 0] (fun _ => 15 < (16 : Byte).toNat) ∧
    Case .ops 0x17 [3, 1, 0, 0, 0, 0] (fun s => s.lines[3] = .armed turnstile true none) ∧
    Case .ops 0x17 [16, 2, 0, 0, 0, 0] (fun _ => 15 < (16 : Byte).toNat) ∧
    Case .ops 0x17 [3, 2, 0, 0, 0, 0] (fun s => s.lines[3] = .armed turnstile true none) :=
  ⟨meets day (by decide) (by decide), meets day (by decide) (by decide),
    meets (day.setLine 3 (.armed turnstile true none)) (by decide) (by decide +kernel), meets day (by decide) (by decide),
    meets (day.setLine 3 (.armed turnstile true none)) (by decide) (by decide +kernel)⟩

theorem witness_BoardSet : Case .ops 0x18 [63, 2, 1, 47, 1] (fun _ => True) ∧
    Case .ops 0x18 [64, 1, 1, 47, 1] (fun s => BoardLaw s ∧ 63 < (64 : Byte).toNat) ∧
    Case .ops 0x18 [63, 1, 255, 47, 1] (fun s => BoardLaw s) ∧ Case .ops 0x18 [63, 1, 0, 47, 1] (fun s => BoardLaw s) ∧
    Case .ops 0x18 [63, 1, 254, 48, 1] (fun s => BoardLaw s) ∧ Case .ops 0x18 [63, 1, 254, 47, 2] (fun s => BoardLaw s) ∧
    Case .ops 0x18 [63, 1, 254, 47, 1] (fun s => BoardLaw s ∧ s.board = .idle) ∧
    Case .ops 0x18 [9, 1, 1, 7, 0] (fun s => BoardLaw s ∧ s.board ≠ .idle ∧ s.valid 9 = true) ∧
    Case .ops 0x18 [64, 0, 0, 0, 0] (fun _ => 63 < (64 : Byte).toNat) ∧ Case .ops 0x18 [9, 0, 0, 0, 0] (fun s => s.valid 9 = true) :=
  ⟨meets day (by decide) trivial, meets day (by decide) ⟨boards (by decide +kernel), by decide⟩, meets day (by decide) (boards (by decide +kernel)),
    meets day (by decide) (boards (by decide +kernel)), meets day (by decide) (boards (by decide +kernel)),
    meets day (by decide) (boards (by decide +kernel)), meets day (by decide) ⟨boards (by decide +kernel), rfl⟩,
    meets { board with board := .resynchronising } (by decide) ⟨boards (by decide +kernel), by decide +kernel⟩,
    meets day (by decide) (by decide), meets board (by decide) (by decide +kernel)⟩

theorem witness_BoardOverride : Case .ride 0x19 [9, 3] (fun _ => Role.ride ≠ .ops) ∧
    Case .ops 0x19 [64, 15] (fun _ => 63 < (64 : Byte).toNat) ∧ Case .ops 0x19 [63, 16] (fun _ => 15 < (16 : Byte).toNat) ∧
    Case .ops 0x19 [63, 15] (fun s => s.valid 63 = false) ∧ Case .ops 0x19 [9, 0] (fun s => s.valid 9 = true) :=
  ⟨meets day (by decide) (by decide), meets day (by decide) (by decide), meets day (by decide) (by decide),
    meets day (by decide) (by decide +kernel), meets board (by decide) (by decide +kernel)⟩

/-! ### Counts and the wait -/

theorem witness_EntryReport : Case .ops 0x20 [7, 0] (fun s => CountsLaw s) ∧ Case .ride 0x20 [48, 63] (fun s => CountsLaw s) ∧
    Case .ride 0x20 [47, 64] (fun s => CountsLaw s) ∧ Case .ride 0x20 [47, 63] (fun s => CountsLaw s ∧ (s.att 47).state = .unused) ∧
    Case .ride 0x20 [7, 63] (fun s => CountsLaw s ∧ (s.att 7).state = .down ∧ (s.att 7).q = 65535) ∧
    Case .ride 0x20 [7, 63] (fun s => CountsLaw s ∧ (s.att 7).state = .closed) :=
  ⟨meets day (by decide) (counts (by decide +kernel)), meets day (by decide) (counts (by decide +kernel)),
    meets day (by decide) (counts (by decide +kernel)), meets day (by decide) ⟨counts (by decide +kernel), by decide +kernel⟩,
    meets (park .opened at1107 { ride .down with q := 65535 }) (by decide) ⟨counts (by decide +kernel), by decide +kernel⟩,
    meets (park .opened at1107 shut) (by decide) ⟨counts (by decide +kernel), by decide +kernel⟩⟩

theorem witness_DispatchReport : Case .ops 0x21 [7, 0] (fun s => RecordsLaw s) ∧
    Case .ride 0x21 [48, 0] (fun s => RecordsLaw s ∧ 47 < (48 : Byte).toNat) ∧
    Case .ride 0x21 [47, 0] (fun s => RecordsLaw s ∧ (s.att 47).state = .unused) ∧
    Case .ride 0x21 [7, 255] (fun s => RecordsLaw s ∧ (s.att 7).state = .down) ∧
    Case .ride 0x21 [7, 255] (fun s => RecordsLaw s ∧ (s.att 7).state = .operating) :=
  ⟨meets day (by decide) (records (by decide +kernel)), meets day (by decide) ⟨records (by decide +kernel), by decide⟩,
    meets day (by decide) ⟨records (by decide +kernel), by decide +kernel⟩,
    meets (park .opened at1107 (ride .down)) (by decide) ⟨records (by decide +kernel), by decide +kernel⟩,
    meets day (by decide) ⟨records (by decide +kernel), by decide +kernel⟩⟩

theorem witness_QueueSet : Case .view 0x22 [7, 0, 0] (fun _ => True) ∧ Case .ride 0x22 [48, 0, 0] (fun _ => 47 < (48 : Byte).toNat) ∧
    Case .ops 0x22 [47, 0, 0] (fun s => (s.att 47).state = .unused) ∧ Case .ops 0x22 [7, 0, 0] (fun s => (s.att 7).state = .closed) ∧
    Case .ride 0x22 [7, 255, 255] (fun s => (s.att 7).state = .operating) :=
  ⟨meets day (by decide) trivial, meets day (by decide) (by decide), meets day (by decide) (by decide +kernel),
    meets (park .opened at1107 shut) (by decide) (by decide +kernel), meets day (by decide) (by decide +kernel)⟩

theorem witness_TargetWait : desc7.floorRate = 1 ∧ 1 ≤ desc7.step := by decide

/-! ### Passes -/

/-- Window 11 is the lowest that an ISSUE at 11:07 for a party of 4 may take, and 12 for a party of 5. -/
theorem witness_WindowChoiceAndOffer : Bookable 540 667 (booked .operating) 4 11 ∧
    (∀ v, v < 11 → ¬ Bookable 540 667 (booked .operating) 4 v) ∧ ¬ Bookable 540 667 (booked .operating) 5 11 := by
  simp only [bookable]
  decide +kernel

theorem witness_IssueEarliest : Case .issue 0x30 [2, 0, 1] (fun _ => (2 : Byte) ≠ 1 ∧ (2 : Byte) ≠ 0) ∧
    Case .issue 0x30 [0, 0, 9] (fun _ => 8 < (9 : Byte).toNat) ∧ Case .issue 0x30 [0, 0, 8] (fun s => (s.port 0).shadow = none) ∧
    Case .issue 0x30 [0, 0, 1] (fun s => ∃ x, (s.port 0).shadow = some x ∧ x.generation ≠ (s.att x.attraction).generation) ∧
    Case .issue 0x30 [0, 0, 1] (fun s => (s.port 0).shadow.isSome = true ∧ s.day = .ended) ∧
    Case .issue 0x30 [0, 0, 1] (fun s => s.day = .opened ∧ (s.att 7).state = .down) ∧
    Case .issue 0x30 [0, 0, 1] (fun s => s.day = .opened ∧ (s.att 7).state = .operating ∧ (s.att 7).desc.share = 0) ∧
    Case .issue 0x30 [0, 0, 1] (fun s => s.day = .opened ∧ (s.att 7).state = .operating ∧
      ∀ w, ¬ Bookable s.o s.now (s.att 7) 1 w) ∧
    Case .issue 0x30 [0, 0, 4] (fun s => s.freeQueue = [] ∧ Bookable s.o s.now (s.att 7) 4 11 ∧
      ∀ v, v < 11 → ¬ Bookable s.o s.now (s.att 7) 4 v) ∧
    Case .issue 0x30 [0, 0, 4] (fun s => s.freeQueue.head? = some 1 ∧ Bookable s.o s.now (s.att 7) 4 11 ∧
      ∀ v, v < 11 → ¬ Bookable s.o s.now (s.att 7) 4 v) := by
  refine ⟨meets day (by decide) (by decide), meets day (by decide) (by decide), meets State.reset (by decide) (by decide +kernel),
    meets (day.setAtt 7 { booked .operating with generation := 1 }) (by decide) ⟨⟨7, 0, 15, 40, 10, 52⟩, by decide +kernel⟩,
    meets (park .ended at1107 (booked .operating)) (by decide) (by decide +kernel),
    meets (park .opened at1107 (booked .down)) (by decide) (by decide +kernel),
    meets (park .opened at1107 { ride .operating with desc := { desc7 with share := 0 } }) (by decide) (by decide +kernel),
    meets (park .opened at1107 (ride .operating)) (by decide) ⟨rfl, by decide +kernel, fun w => ?_⟩,
    meets { day with freeQueue := [] } (by decide) ?_, meets day (by decide) ?_⟩
  · rintro ⟨x, hx, _⟩
    rw [held_att, show (park .opened at1107 (ride .operating)).att 7 = ride .operating by decide +kernel] at hx
    cases hx
  · simp only [bookable]
    decide +kernel
  · simp only [bookable]
    decide +kernel

theorem witness_IssueAt : Case .issue 0x30 [1, 11, 0] (fun _ => (0 : Byte).toNat < 1) ∧
    Case .issue 0x30 [1, 64, 1] (fun s => (s.port 0).shadow = none) ∧ Case .issue 0x30 [1, 63, 8] (fun s => (s.port 0).shadow = none) ∧
    Case .issue 0x30 [1, 52, 1] (fun s => (s.att 7).window 52 = none) ∧
    Case .issue 0x30 [1, 51, 1] (fun s => (s.att 7).window 51 = some (bookAt 51) ∧ (s.att 7).generation ≠ 0) ∧
    Case .issue 0x30 [1, 51, 1] (fun s => (s.att 7).window 51 = some (bookAt 51) ∧ s.day = .ended) ∧
    Case .issue 0x30 [1, 51, 1] (fun s => (s.att 7).window 51 = some (bookAt 51) ∧ s.day = .opened ∧ (s.att 7).state = .down) ∧
    Case .issue 0x30 [1, 6, 1] (fun s => (s.att 7).window 6 = some (bookAt 6) ∧ (bookAt 6).state = .closed) ∧
    Case .issue 0x30 [1, 9, 1] (fun s => (s.att 7).window 9 = some (bookAt 9) ∧
      540 + 9 * (s.att 7).desc.length < s.now + (s.att 7).desc.minLead) ∧
    Case .issue 0x30 [1, 11, 5] (fun s => (s.att 7).window 11 = some (bookAt 11) ∧ (bookAt 11).booked + 5 = (bookAt 11).quota + 1) ∧
    Case .issue 0x30 [1, 11, 4] (fun s => (s.att 7).window 11 = some (bookAt 11) ∧ s.freeQueue = []) ∧
    Case .issue 0x30 [1, 11, 4] (fun s => (s.att 7).window 11 = some (bookAt 11) ∧ (bookAt 11).booked + 4 = (bookAt 11).quota ∧
      s.freeQueue.head? = some 1) :=
  ⟨meets day (by decide) (by decide), meets State.reset (by decide) (by decide +kernel),
    meets State.reset (by decide) (by decide +kernel), meets day (by decide) (by decide +kernel),
    meets (day.setAtt 7 { booked .operating with generation := 1 }) (by decide) (by decide +kernel),
    meets (park .ended at1107 (booked .operating)) (by decide) (by decide +kernel),
    meets (park .opened at1107 (booked .down)) (by decide) (by decide +kernel), meets day (by decide) (by decide +kernel),
    meets day (by decide) (by decide +kernel), meets day (by decide) (by decide +kernel),
    meets { day with freeQueue := [] } (by decide) (by decide +kernel), meets day (by decide) (by decide +kernel)⟩

/-- The day with a ride whose first window opens before minute 0. -/
def midnight : State := withPass 0 .issued
  { park .opened ⟨0, 0, 30⟩ { ride .operating with windows := some [{ bookAt 11 with booked := 3 }] } with
    openMinute := some 5, closeMinute := some 40 }

theorem witness_Redeem : Case .issue 0x31 [0x10, 0x01] (fun s => s.slots[1].pass = none) ∧
    Case .issue 0x31 [0xF0, 0x00] (fun s => s.slots[0].generation ≠ 15) ∧
    Case .issue 0x31 [0x10, 0x00] (fun s => s.slots[0].pass.map (·.state) = some .redeemed) ∧
    Case .issue 0x31 [0x10, 0x00] (fun s => s.slots[0].pass.map (·.state) = some .expired) ∧
    Case .issue 0x31 [0x10, 0x00] (fun s => s.slots[0].pass.map (·.state) = some .voided) ∧
    Case .issue 0x31 [0x10, 0x00] (fun s => s.slots[0].pass.map (·.state) = some .issued ∧ (s.att 7).state = .down) ∧
    Case .issue 0x31 [0x10, 0x00] (fun s => s.slots[0].pass.map (·.state) = some .issued ∧ (s.att 7).state = .operating ∧
      (s.att 7).window 11 = some (bookAt 11) ∧ (bookAt 11).state = .future) ∧
    Case .issue 0x31 [0x10, 0x00] (fun s => s.slots[0].pass.map (·.window) = some 0 ∧ (s.att 7).state = .operating ∧
      ((s.att 7).window 0).map (·.state) = some .future ∧ s.o < (s.att 7).desc.earlyGrace) ∧
    Case .issue 0x31 [0x10, 0x00] (fun s => s.slots[0].pass.map (·.window) = some 9 ∧ (s.att 7).state = .operating ∧
      (s.att 7).window 9 = some (bookAt 9) ∧ (bookAt 9).state ≠ .future) :=
  ⟨meets day (by decide) (by decide +kernel), meets day (by decide) (by decide +kernel),
    meets (withPass 6 .redeemed day) (by decide) (by decide +kernel), meets (withPass 6 .expired day) (by decide) (by decide +kernel),
    meets (withPass 11 .voided day) (by decide) (by decide +kernel),
    meets (withPass 11 .issued (park .opened at1107 (booked .down))) (by decide) (by decide +kernel),
    meets day (by decide) (by decide +kernel), meets midnight (by decide) (by decide +kernel),
    meets (withPass 9 .issued day) (by decide) (by decide +kernel)⟩

theorem witness_Cancel : Case .issue 0x32 [0x1F, 0xFF] (fun s => s.slots[4095].pass = none) ∧
    Case .issue 0x32 [0x10, 0x00] (fun s => s.slots[0].pass.map (·.state) = some .redeemed) ∧
    Case .issue 0x32 [0x10, 0x00] (fun s => s.slots[0].pass.map (·.state) = some .expired) ∧
    Case .issue 0x32 [0x10, 0x00] (fun s => s.slots[0].pass.map (·.state) = some .voided) ∧
    Case .issue 0x32 [0x10, 0x00] (fun s => s.slots[0].pass.map (·.state) = some .issued) :=
  ⟨meets day (by decide) (by decide +kernel), meets (withPass 6 .redeemed day) (by decide) (by decide +kernel),
    meets (withPass 6 .expired day) (by decide) (by decide +kernel), meets (withPass 11 .voided day) (by decide) (by decide +kernel),
    meets day (by decide) (by decide +kernel)⟩

theorem witness_RequestFrames : (List.replicate 32 (0xFF : Byte)).length ≤ 32 ∧ (requestFrame 0x01 [])[2]? ≠ some 0 ∧
    2 < (requestFrame 0x01 []).length := by decide

theorem witness_BitsAndDescriptors : (List.replicate 7 true).length < 8 ∧ desc7.inRange = true := by decide

/-! ### Invariants -/

theorem witness_SettledKept : ∃ s t : State, Settled s ∧ s.pending = [.secondTick] ∧ step s = .next t :=
  ⟨settle { day with pending := [.secondTick] }, _, settled_settle _, rfl, rfl⟩

theorem witness_CountsKept : ∃ s t : State, CountsLaw s ∧ (s.att 7).q = 600 ∧ s.pending = [.secondTick] ∧ step s = .next t :=
  ⟨{ day with pending := [.secondTick] }, _, counts (by decide +kernel), by decide +kernel, rfl, rfl⟩

theorem witness_PostedKept : ∃ s t : State, RecordsLaw s ∧ AgeLaw s ∧ PostedLaw s ∧ (s.att 7).posted = 35 ∧
    s.pending = [.secondTick] ∧ step s = .next t :=
  ⟨{ day with pending := [.secondTick] }, _, records (by decide +kernel), ⟨by decide +kernel, by decide +kernel, by decide +kernel⟩,
    by unfold PostedLaw; decide +kernel, by decide +kernel, rfl, rfl⟩

theorem witness_BoardKept : ∃ s t : State, BoardLaw s ∧ ScanLaw s ∧ s.board ≠ .idle ∧ s.dirty[9] = true ∧
    s.pending = [.secondTick] ∧ step s = .next t :=
  ⟨{ board with dirty := board.dirty.set 9 true, board := .resynchronising, pending := [.secondTick] }, _,
    boards (by decide +kernel), by unfold ScanLaw; decide +kernel, by decide +kernel, by decide +kernel, rfl, rfl⟩

theorem witness_FrameKept : ∃ s t : State, FrameLaw s ∧ s.day = .opened ∧ s.pending = [.secondTick] ∧ step s = .next t :=
  ⟨{ day with pending := [.secondTick] }, _,
    { clock := by simp [day, withPass, park, at1107, Time.Valid]
      waiting := fun v h => by simp [day, withPass, park, State.reset, State.powerOn] at h
      unset := fun h => by simp [day, withPass, park] at h
      half := fun h => by simp [day, withPass, park] at h
      range := fun m h => by
        simp only [day, withPass, park, State.updPort, Option.some.injEq] at h
        omega
      both := fun _ => ⟨540, 1320, rfl, rfl, by decide⟩ }, rfl, rfl, rfl⟩

/-- A frame of two windows, the first with a pass for three. -/
def shortDay : State :=
  { withPass 0 .issued (park .opened at1107 { ride .operating with windows := some [⟨180, 3, 0, .opened, none⟩, ⟨180, 0, 0, .future, none⟩] }) with
    openMinute := some 660
    closeMinute := some 690
    pending := [.secondTick] }

theorem shortDay_slots (i : SlotNo) : shortDay.slots[i] = if i = 0 then ⟨1, some ⟨7, 0, 3, .issued, 666, 2, none⟩⟩ else ⟨0, none⟩ := by
  by_cases h : i = 0
  · subst h; decide +kernel
  · have h0 : ¬ (0 : Nat) = i.val := fun e => h (Fin.ext e.symm)
    simp [shortDay, withPass, park, State.updPort, State.reset, State.powerOn, h, h0]

theorem shortDay_queue : shortDay.freeQueue = (List.finRange 4095).map Fin.succ := by
  simp only [shortDay, withPass, park, State.updPort, State.reset, State.powerOn]
  rw [List.finRange_succ (n := 4095), List.drop_succ_cons, List.drop_zero]

theorem shortDay_law : QueueLaw shortDay ∧ TableLaw shortDay where
  left :=
    { once := by
        rw [shortDay_queue]
        exact (List.nodup_finRange _).map (Fin.succ_injective _)
      free := fun i => by
        rw [shortDay_queue, shortDay_slots]
        simp only [List.mem_map, List.mem_finRange, true_and]
        constructor
        · rintro ⟨j, rfl⟩
          rw [if_neg (Fin.succ_ne_zero j)]
        · intro h
          have hi : i ≠ 0 := fun e => by simp [e] at h
          exact ⟨i.pred hi, Fin.succ_pred i hi⟩ }
  right := fun h => absurd rfl h

theorem witness_PassTableKept : ∃ s t : State, QueueLaw s ∧ TableLaw s ∧ s.slots[0].pass.isSome = true ∧ step s = .next t :=
  ⟨shortDay, _, shortDay_law.1, shortDay_law.2, by decide +kernel, rfl⟩

theorem shortDay_att : ∀ a : AttrNo, a ≠ 7 → shortDay.att a = .unused := by decide +kernel

theorem witness_BookSoundKept : ∃ s t : State, BookSound s ∧ s.slots[0].pass.isSome = true ∧ step s = .next t := by
  have hw : ∀ {a w x}, (shortDay.att a).window w = some x → a = 7 ∧ w < 2 := by
    intro a w x h
    by_cases ha : a = 7
    · subst ha
      exact ⟨rfl, (List.getElem?_eq_some_iff.mp h).1⟩
    · rw [shortDay_att a ha] at h
      cases h
  refine ⟨shortDay, _, ⟨⟨fun _ => by decide +kernel, fun h => ?_, fun a h => ?_, fun _ a ws h => ?_⟩,
    ⟨fun a w x h => ?_, fun a w x h => ?_⟩, shortDay_law.1, shortDay_law.2,
    fun i r h => ?_, fun a w x h _ => ?_⟩, by decide +kernel, rfl⟩
  · rcases h with h | h <;> cases h
  · by_cases ha : a = 7
    · subst ha
      exact absurd h (by decide +kernel)
    · rw [shortDay_att a ha]
      rfl
  · by_cases ha : a = 7
    · subst ha
      cases h
      decide +kernel
    · rw [shortDay_att a ha] at h
      cases h
  · obtain ⟨rfl, hlt⟩ := hw h
    have : w = 0 ∨ w = 1 := by omega
    rcases this with rfl | rfl <;> cases h <;> decide
  · obtain ⟨rfl, hlt⟩ := hw h
    have : w = 0 ∨ w = 1 := by omega
    rcases this with rfl | rfl <;> cases h <;> decide
  · rw [shortDay_slots] at h
    by_cases hi : i = 0
    · rw [if_pos hi] at h
      cases h
      exact ⟨by decide, by decide, _, rfl, by decide⟩
    · rw [if_neg hi] at h
      cases h
  · obtain ⟨rfl, hlt⟩ := hw h
    have : w = 0 ∨ w = 1 := by omega
    rcases this with rfl | rfl <;> cases h <;> decide +kernel

end Sys2Proof.Tests
end

section
/-! PROOFS. Steps by their parts: what every command does, request rows through their bodies, and what an invariant needs in
order to be kept by every step. -/

namespace Sys2Proof.Machine

/-! ## Requests by row -/

/-- What carries out a request of each row. -/
def Row.body : Row → Body
  | .status => statusBody
  | .ackEvents => ackEventsBody
  | .setEvents => setEventsBody
  | .readClock => readClockBody
  | .select => selectBody
  | .readPosting => readPostingBody
  | .readChanged => readChangedBody
  | .readWindows => readWindowsBody
  | .readPass => readPassBody
  | .readAttraction => readAttractionBody
  | .setClock => setClockBody
  | .frameOpen => frameOpenBody
  | .frameClose => frameCloseBody
  | .clearDay => clearDayBody
  | .configure => configureBody
  | .release => releaseBody
  | .setStateOperating => setStateOperatingBody
  | .setStateDown => setStateDownBody
  | .setStateClosed => setStateClosedBody
  | .bind => bindBody
  | .unbind => unbindBody
  | .inquire => inquireBody
  | .boardSet => boardSetBody
  | .boardSetClear => boardSetClearBody
  | .boardOverride => boardOverrideBody
  | .entryReport => entryReportBody
  | .dispatchReport => dispatchReportBody
  | .queueSet => queueSetBody
  | .issueEarliest => issueEarliestBody
  | .issueAt => issueAtBody
  | .redeem => redeemBody
  | .cancel => cancelBody
  | .unknownRequest => unknownBody

/-- The command of a row carries out the port's request under the row's body. -/
theorem exec_command (row : Row) (p : PortNo) (s : State) :
    exec (row.command p) s = .next (carryOut row row.body p s) := by
  cases row <;> rfl

/-- An answer that accepts hands over a state of which P holds. -/
def Leaves (P : State → Prop) : Answer → Prop
  | .ok (t, _) => P t
  | .error _ => True

@[simp] theorem leaves_reject (P : State → Prop) (c : ResultCode) : Leaves P (reject c) := trivial

@[simp] theorem leaves_error (P : State → Prop) (r : Reject) : Leaves P (.error r) := trivial

@[simp] theorem leaves_accept (P : State → Prop) (t : State) (data : List Byte) : Leaves P (accept t data) ↔ P t := Iff.rfl

theorem Leaves.mono {P Q : State → Prop} (h : ∀ t, P t → Q t) {x : Answer} (hx : Leaves P x) : Leaves Q x := by
  match x, hx with
  | .ok (t, _), hx => exact h t hx
  | .error _, _ => trivial

/-! ## Invariants -/

/-- What a property of the state needs in order to be kept by every step: each part of an event keeps it. -/
structure Kept (P : State → Prop) : Prop where
  queue : ∀ s waiting, P s → P { s with pending := waiting }
  settle : ∀ s, P s → P (settle s)
  port : ∀ s p f, P s → P (s.updPort p f)
  powerOn : ∀ straps s, P s → P { State.powerOn straps with choice := s.choice, pending := s.pending }
  lineReset : ∀ straps s, P s → P (lineReset straps s)
  tick : ∀ s, P s → P (secondTick s)
  sample : ∀ levels s, P s → P (sampleLines levels s)
  scan : ∀ s, P s → P (raiseScan s)
  start : ∀ s, P s → P (startFrame s)
  body : ∀ (row : Row) p args s, P s → Leaves P (row.body p args s)

theorem Kept.reply {P : State → Prop} (k : Kept P) {s : State} (p : PortNo) (r : List Byte) (h : P s) :
    P (s.withReply p r) := k.port s p _ h

/-- A refused request changes its port's link and nothing else; an accepted one settles what its row hands over. -/
theorem Kept.carryOut {P : State → Prop} (k : Kept P) (row : Row) (p : PortNo) {s : State} (h : P s) :
    P (carryOut row row.body p s) := by
  have refused : ∀ request r, P (answered p request s (.error r)) :=
    fun _ _ => k.reply p _ h
  unfold Machine.carryOut
  split
  · next request _ =>
    split
    · unfold judge
      split
      · exact refused ..
      · next args _ =>
        split
        · exact refused ..
        · split
          · have hb := k.body row p args s h
            match row.body p args s, hb with
            | .ok (t, _), hb => exact k.reply p _ (k.settle _ hb)
            | .error _, _ => exact refused ..
          · exact refused ..
    · exact h
  · exact h
  · exact h

/-- A frame in flight gives way to the next frame start, after SCAN where it ended a pass (R152, R155). -/
theorem exec_frameCompletion {s t : State} (hx : exec .frameCompletion s = .next t) :
    t = s ∨ t = startFrame s ∨ t = startFrame (raiseScan s) := by
  rw [← Host.Outcome.next.inj hx]
  cases s.board with
  | idle => exact .inl rfl
  | resynchronising => exact .inl rfl
  | sending f passEnd => cases passEnd <;> simp

/-- The end of the resynchronising gap starts a frame (R156). -/
theorem exec_resynchronisingGapEnd {s t : State} (hx : exec .resynchronisingGapEnd s = .next t) :
    t = s ∨ t = startFrame s := by
  rw [← Host.Outcome.next.inj hx]
  cases s.board <;> simp

/-- A fall or a rise of PSEL changes its port alone (R160, R163). -/
theorem exec_psel {s t : State} {p : PortNo} {bits : List Bool}
    (hx : exec (.pselFall p) s = .next t ∨ exec (.pselRise p bits) s = .next t) : t = s ∨ ∃ f, t = s.updPort p f := by
  rcases hx with hx | hx <;> rw [← Host.Outcome.next.inj hx] <;> cases (s.port p).period
  · exact .inr ⟨_, rfl⟩
  · exact .inl rfl
  · exact .inl rfl
  · exact .inr ⟨_, rfl⟩

/-- A command keeps a property that each part of an event keeps. -/
theorem Kept.exec {P : State → Prop} (k : Kept P) (i : Instr) {s t : State} (h : P s)
    (hx : Machine.exec i s = .next t) : P t := by
  have request : ∀ (row : Row) p, Machine.exec (row.command p) s = .next t → P t := fun row p hx => by
    rw [exec_command] at hx
    cases hx
    exact k.carryOut row p h
  have guarded : ∀ (b : Bool) u, P u →
      Host.Outcome.next (if b then u else s) = Host.Outcome.next (φ := Fault) (ρ := Refusal) t → P t := fun b u hu hx => by
    cases hx
    split <;> assumption
  cases i with
  | powerOn straps => exact Host.Outcome.next.inj hx ▸ k.powerOn straps s h
  | lineReset straps => exact Host.Outcome.next.inj hx ▸ k.settle _ (k.lineReset straps s h)
  | secondTick => exact Host.Outcome.next.inj hx ▸ k.tick s h
  | minuteTick => exact guarded _ _ (k.tick s h) hx
  | agingTick a => exact guarded _ _ (k.tick s h) hx
  | retirement a w => exact guarded _ _ (k.tick s h) hx
  | qualifiedTransition l levels => exact guarded _ _ (k.sample levels s h) hx
  | lineArming l levels => exact guarded _ _ (k.sample levels s h) hx
  | millisecondSample levels => exact Host.Outcome.next.inj hx ▸ k.sample levels s h
  | frameCompletion =>
    obtain rfl | rfl | rfl := exec_frameCompletion hx
    · exact h
    · exact k.start _ h
    · exact k.start _ (k.scan _ h)
  | resynchronisingGapEnd =>
    obtain rfl | rfl := exec_resynchronisingGapEnd hx
    · exact h
    · exact k.start _ h
  | pselFall p =>
    obtain rfl | ⟨f, rfl⟩ := exec_psel (bits := []) (.inl hx)
    · exact h
    · exact k.port _ _ _ h
  | pselRise p bits =>
    obtain rfl | ⟨f, rfl⟩ := exec_psel (.inr hx)
    · exact h
    · exact k.port _ _ _ h
  | status p => exact request .status p hx
  | ackEvents p => exact request .ackEvents p hx
  | setEvents p => exact request .setEvents p hx
  | readClock p => exact request .readClock p hx
  | select p => exact request .select p hx
  | readPosting p => exact request .readPosting p hx
  | readChanged p => exact request .readChanged p hx
  | readWindows p => exact request .readWindows p hx
  | readPass p => exact request .readPass p hx
  | readAttraction p => exact request .readAttraction p hx
  | setClock p => exact request .setClock p hx
  | frameOpen p => exact request .frameOpen p hx
  | frameClose p => exact request .frameClose p hx
  | clearDay p => exact request .clearDay p hx
  | configure p => exact request .configure p hx
  | release p => exact request .release p hx
  | setStateOperating p => exact request .setStateOperating p hx
  | setStateDown p => exact request .setStateDown p hx
  | setStateClosed p => exact request .setStateClosed p hx
  | bind p => exact request .bind p hx
  | unbind p => exact request .unbind p hx
  | inquire p => exact request .inquire p hx
  | boardSet p => exact request .boardSet p hx
  | boardSetClear p => exact request .boardSetClear p hx
  | boardOverride p => exact request .boardOverride p hx
  | entryReport p => exact request .entryReport p hx
  | dispatchReport p => exact request .dispatchReport p hx
  | queueSet p => exact request .queueSet p hx
  | issueEarliest p => exact request .issueEarliest p hx
  | issueAt p => exact request .issueAt p hx
  | redeem p => exact request .redeem p hx
  | cancel p => exact request .cancel p hx
  | unknownRequest p => exact request .unknownRequest p hx

/-- A step keeps a property that each part of an event keeps. -/
theorem Kept.step {P : State → Prop} (k : Kept P) {s t : State} (h : P s) (hx : Machine.step s = .next t) : P t := by
  unfold Machine.step at hx
  split at hx
  · cases hx
    exact h
  · exact k.exec _ (k.queue s _ h) hx

end Sys2Proof.Machine
end

section
/-! PROOFS. The clock and the frame: what leaves them, and that every step keeps their law (section 1.4). -/

namespace Sys2Proof.Machine

/-! ## The clock and the frame left alone -/

/-- The clock, its flag, the pending value, the frame state, O and Z are the same in two states. -/
structure SameDay (s t : State) : Prop where
  clock : t.clock = s.clock
  clockSet : t.clockSet = s.clockSet
  waiting : t.pendingClock = s.pendingClock
  day : t.day = s.day
  open_ : t.openMinute = s.openMinute
  close : t.closeMinute = s.closeMinute

theorem SameDay.rfl {s : State} : SameDay s s := ⟨Eq.refl _, Eq.refl _, Eq.refl _, Eq.refl _, Eq.refl _, Eq.refl _⟩

theorem SameDay.trans {s t u : State} (h : SameDay s t) (k : SameDay t u) : SameDay s u :=
  ⟨k.clock.trans h.clock, k.clockSet.trans h.clockSet, k.waiting.trans h.waiting, k.day.trans h.day,
    k.open_.trans h.open_, k.close.trans h.close⟩

/-- The law of the clock and the frame depends on nothing else. -/
theorem FrameLaw.same {s t : State} (h : FrameLaw s) (k : SameDay s t) : FrameLaw t where
  clock := k.clock ▸ h.clock
  waiting := k.waiting ▸ h.waiting
  unset := by rw [k.day, k.open_, k.close]; exact h.unset
  half := by rw [k.day, k.open_, k.close]; exact h.half
  range := by rw [k.open_, k.close]; exact h.range
  both := by rw [k.day, k.open_, k.close]; exact h.both

theorem sendEntry_sameDay (e : EntryNo) (passEnd : Bool) (s : State) : SameDay s (sendEntry e passEnd s) := by
  unfold sendEntry
  split <;> exact ⟨rfl, rfl, rfl, rfl, rfl, rfl⟩

theorem startFrame_sameDay (s : State) : SameDay s (startFrame s) := by
  unfold startFrame
  split
  · exact sendEntry_sameDay ..
  · split
    · refine SameDay.trans ?_ (sendEntry_sameDay ..)
      exact ⟨rfl, rfl, rfl, rfl, rfl, rfl⟩
    · exact ⟨rfl, rfl, rfl, rfl, rfl, rfl⟩

theorem markDirty_setEntry_sameDay (e : EntryNo) (x : BoardEntry) (s : State) :
    SameDay s (markDirty e (s.setEntry e x)) := by
  unfold markDirty
  split <;> exact ⟨rfl, rfl, rfl, rfl, rfl, rfl⟩

theorem bindEntry_sameDay (e : EntryNo) (b : SignBinding) (s : State) : SameDay s (bindEntry e b s) := by
  have h : SameDay s (markDirty e (s.setEntry e { s.entries[e] with binding := some b })) :=
    markDirty_setEntry_sameDay ..
  unfold bindEntry
  simp only []
  split
  · exact h.trans (startFrame_sameDay _)
  · exact h
  · exact h

theorem configureNew_sameDay (a : AttrNo) (d : Descriptor) (s : State) : SameDay s (configureNew a d s) := by
  unfold configureNew
  simp only []
  split <;> exact ⟨rfl, rfl, rfl, rfl, rfl, rfl⟩

theorem configureUsed_sameDay (a : AttrNo) (d : Descriptor) (s : State) : SameDay s (configureUsed a d s) := by
  unfold configureUsed
  simp only []
  split <;> split <;> exact ⟨rfl, rfl, rfl, rfl, rfl, rfl⟩

theorem toDown_sameDay (a : AttrNo) (s : State) : SameDay s (toDown a s) := by
  unfold toDown
  constructor <;> simp

theorem toClosed_sameDay (a : AttrNo) (s : State) : SameDay s (toClosed a s) := by
  unfold toClosed
  constructor <;> simp

theorem issueInto_sameDay (p : PortNo) (a : AttrNo) (w n : Nat) (s : State) :
    Leaves (SameDay s) (issueInto p a w n s) := by
  unfold issueInto
  split
  · trivial
  · next t id h =>
    obtain ⟨i, rest, -, -, rfl⟩ := allocate_eq_some h
    exact ⟨rfl, rfl, rfl, rfl, rfl, rfl⟩

theorem settle_sameDay (s : State) : SameDay s (settle s) := ⟨rfl, rfl, rfl, rfl, rfl, rfl⟩

theorem applyCount_sameDay (b : Binding) (s : State) : SameDay s (applyCount b s) := by
  unfold applyCount
  split <;> exact ⟨rfl, rfl, rfl, rfl, rfl, rfl⟩

theorem lineWork_sameDay (levels : Levels) (l : LineNo) (s : State) : SameDay s (lineWork levels l s) := by
  unfold lineWork
  simp only []
  split
  · split
    · refine SameDay.trans ?_ (applyCount_sameDay ..)
      exact ⟨rfl, rfl, rfl, rfl, rfl, rfl⟩
    · exact ⟨rfl, rfl, rfl, rfl, rfl, rfl⟩
  · exact ⟨rfl, rfl, rfl, rfl, rfl, rfl⟩

theorem sampleLines_sameDay (levels : Levels) (s : State) : SameDay s (sampleLines levels s) :=
  foldl_keeps (P := SameDay s) (fun _ _ h => (h.trans (lineWork_sameDay ..)).trans (settle_sameDay _)) _ _
    ⟨rfl, rfl, rfl, rfl, rfl, rfl⟩

/-- The rows that write the pending clock value, O, Z or the frame state. -/
def Row.writesDay : Row → Bool
  | .setClock | .frameOpen | .frameClose | .clearDay => true
  | _ => false

/-- Every other row leaves the clock and the frame alone. -/
theorem body_sameDay {row : Row} (h : row.writesDay = false) (p : PortNo) (args : List Byte) (s : State) :
    Leaves (SameDay s) (row.body p args s) := by
  cases row <;> try cases h
  all_goals
    simp only [Row.body, statusBody, ackEventsBody, setEventsBody, readClockBody, selectBody, readPostingBody,
      readChangedBody, readWindowsBody, readPassBody, readAttractionBody, configureBody, releaseBody,
      setStateOperatingBody, setStateDownBody, setStateClosedBody, bindBody, unbindBody, inquireBody, boardSetBody,
      boardSetClearBody, boardOverrideBody, entryReportBody, dispatchReportBody, queueSetBody, issueEarliestBody,
      issueAtBody, redeemBody, cancelBody, unknownBody]
    repeat' split
  all_goals
    simp only [leaves_reject, leaves_error, leaves_accept, configureNew_sameDay, configureUsed_sameDay, toDown_sameDay,
      toClosed_sameDay, bindEntry_sameDay, markDirty_setEntry_sameDay, issueInto_sameDay]
  all_goals exact ⟨rfl, rfl, rfl, rfl, rfl, rfl⟩

/-! ## The works of a tick -/

/-- What the frame's work at a minute tick does: nothing, or the entry into OPEN, or the entry into ENDED (R10, R13). -/
theorem frameWork_cases (m : Nat) (s : State) :
    (frameWork m s = s ∧ (s.day = .armed → m < s.o) ∧ (s.day = .opened → m < s.z)) ∨
      (frameWork m s = raiseAll .frame (openFrameDay s) ∧ s.day = .armed ∧ s.o ≤ m ∧ m < s.z) ∨
      (frameWork m s = raiseAll .frame (endFrame m s) ∧ (s.day = .opened ∨ s.day = .armed ∧ s.o ≤ m) ∧ s.z ≤ m) := by
  unfold frameWork
  cases hd : s.day with
  | armed =>
    by_cases ho : m < s.o
    · simp [ho]
    · by_cases hz : s.z ≤ m
      · simp [ho, hz, Nat.le_of_not_lt ho]
      · simp [ho, hz, Nat.le_of_not_lt ho, Nat.lt_of_not_le hz]
  | opened =>
    by_cases hz : s.z ≤ m
    · simp [hz]
    · simp [hz, Nat.lt_of_not_le hz]
  | unset => simp
  | half => simp
  | ended => simp

@[simp] theorem endFrame_day (m : Nat) (s : State) : (endFrame m s).day = .ended := rfl

@[simp] theorem openFrameDay_day (s : State) : (openFrameDay s).day = .opened := rfl

theorem estimatorWork_sameDay (m : Nat) (a : AttrNo) (s : State) : SameDay s (estimatorWork m a s) := by
  unfold estimatorWork
  simp only []
  split <;> exact ⟨rfl, rfl, rfl, rfl, rfl, rfl⟩

/-- Freeing the passes of one test after another leaves the clock and the frame alone. -/
theorem freeEach_sameDay (hit : Nat → Pass → Bool) (ws : List Nat) (s : State) :
    SameDay s (ws.foldl (fun s w => s.freeWhere (hit w)) s) :=
  foldl_keeps (f := fun s w => s.freeWhere (hit w)) (P := SameDay s)
    (fun _ _ h => ⟨h.clock, h.clockSet, h.waiting, h.day, h.open_, h.close⟩) ws s .rfl

theorem moveWindows_sameDay (m o z : Nat) (a : AttrNo) (xs : List Window) (s : State) :
    SameDay s (moveWindows m o z a xs s) := by
  have freed : ∀ (hit : Nat → Pass → Bool) f (ws : List Nat) g,
      SameDay s (ws.foldl (fun s w => s.freeWhere (hit w)) ((s.updAtt a f).retag g .expired)) :=
    fun hit f ws g =>
      SameDay.trans (t := (s.updAtt a f).retag g .expired) ⟨rfl, rfl, rfl, rfl, rfl, rfl⟩ (freeEach_sameDay hit ws _)
  unfold moveWindows
  simp only []
  split
  · exact (freed ..).trans ⟨rfl, rfl, rfl, rfl, rfl, rfl⟩
  · exact freed ..

theorem bookWork_sameDay (m : Nat) (a : AttrNo) (s : State) : SameDay s (bookWork m a s) := by
  unfold bookWork
  split
  · split
    · exact (moveWindows_sameDay ..).trans ⟨rfl, rfl, rfl, rfl, rfl, rfl⟩
    · exact .rfl
  · exact .rfl

/-! ## The clock's part of a tick -/

/-- The reading one second after a valid reading is valid (R1). -/
theorem Time.Valid.advance {t : Time} (h : t.Valid) : t.advance.Valid := by
  obtain ⟨hh, hm, hs⟩ := h
  unfold Time.advance
  split
  · exact ⟨hh, hm, by simp only; omega⟩
  · split
    · exact ⟨hh, by simp only; omega, by simp⟩
    · split
      · exact ⟨by simp only; omega, by simp, by simp⟩
      · exact ⟨by simp, by simp, by simp⟩

/-- Only the pending value is ever loaded (R5). -/
theorem pending_of_loads {s : State} {v : Time} (h : s.loads = some v) : s.pendingClock = some v := by
  unfold State.loads at h
  split at h
  · next w hw =>
    split at h
    · cases h
    · cases h
      exact hw
  · cases h

theorem FrameLaw.nextReading {s : State} (h : FrameLaw s) : s.nextReading.Valid := by
  unfold State.nextReading
  cases hl : s.loads with
  | none => exact h.clock.advance
  | some v => exact h.waiting v (pending_of_loads hl)

@[simp] theorem clockTick_clock (s : State) : (clockTick s).clock = s.nextReading := by
  unfold clockTick
  simp only []
  split <;> rfl

@[simp] theorem clockTick_pendingClock (s : State) : (clockTick s).pendingClock = none := by
  unfold clockTick
  simp only []
  split <;> rfl

@[simp] theorem clockTick_day (s : State) : (clockTick s).day = s.day := by
  unfold clockTick
  simp only []
  split <;> rfl

@[simp] theorem clockTick_openMinute (s : State) : (clockTick s).openMinute = s.openMinute := by
  unfold clockTick
  simp only []
  split <;> rfl

@[simp] theorem clockTick_closeMinute (s : State) : (clockTick s).closeMinute = s.closeMinute := by
  unfold clockTick
  simp only []
  split <;> rfl

/-! ## The law of the clock and the frame -/

/-- A confirmed, open or ended frame in a state whose clock stands as before (R9, R12). -/
theorem FrameLaw.withPair {s t : State} {o z : Nat} (h : FrameLaw s) (hc : t.clock = s.clock)
    (hp : t.pendingClock = s.pendingClock) (hd : t.day = .armed ∨ t.day = .opened ∨ t.day = .ended)
    (ho : t.openMinute = some o) (hz : t.closeMinute = some z) (hle : o + Config.leastFrame ≤ z) (hr : z ≤ 1439) :
    FrameLaw t where
  clock := hc ▸ h.clock
  waiting := hp ▸ h.waiting
  unset hu := by rw [hu] at hd; simp at hd
  half hu := by rw [hu] at hd; simp at hd
  range m hm := by
    rw [ho, hz] at hm
    rcases hm with hm | hm <;> cases hm <;> omega
  both _ := ⟨o, z, ho, hz, hle⟩

/-- A frame with one of its minutes, in a state whose clock stands as before (R9, R11). -/
theorem FrameLaw.withHalf {s t : State} (h : FrameLaw s) (hc : t.clock = s.clock)
    (hp : t.pendingClock = s.pendingClock) (hd : t.day = .half)
    (hone : t.openMinute.isSome ≠ t.closeMinute.isSome)
    (hr : ∀ m, t.openMinute = some m ∨ t.closeMinute = some m → m ≤ 1439) : FrameLaw t where
  clock := hc ▸ h.clock
  waiting := hp ▸ h.waiting
  unset hu := by rw [hd] at hu; cases hu
  half _ := hone
  range := hr
  both hu := by rw [hd] at hu; simp at hu

/-- A pair that stands in ARMED, OPEN or ENDED stands there in whichever of them the frame goes to. -/
theorem FrameLaw.withDay {s t : State} (h : FrameLaw s) (hs : s.day = .armed ∨ s.day = .opened ∨ s.day = .ended)
    (hd : t.day = .armed ∨ t.day = .opened ∨ t.day = .ended) (hc : t.clock = s.clock)
    (hp : t.pendingClock = s.pendingClock) (ho : t.openMinute = s.openMinute) (hz : t.closeMinute = s.closeMinute) :
    FrameLaw t := by
  obtain ⟨o, z, hso, hsz, hle⟩ := h.both hs
  exact h.withPair hc hp hd (ho.trans hso) (hz.trans hsz) hle (h.range z (.inr hsz))

theorem FrameLaw.frameWork {s : State} (h : FrameLaw s) (m : Nat) : FrameLaw (frameWork m s) := by
  obtain ⟨he, -⟩ | ⟨he, hd, -⟩ | ⟨he, hd, -⟩ := frameWork_cases m s <;> rw [he]
  · exact h
  · exact h.withDay (.inl hd) (by simp) rfl rfl rfl rfl
  · exact h.withDay (by tauto) (by simp) rfl rfl rfl rfl

theorem FrameLaw.tickWork {s : State} (h : FrameLaw s) (m : Nat) (w : TickWork) : FrameLaw (tickWork m w s) := by
  cases w with
  | frame => exact h.frameWork m
  | estimator a => exact h.same (estimatorWork_sameDay m a s)
  | book a => exact h.same (bookWork_sameDay m a s)

theorem FrameLaw.minuteWork {s : State} (h : FrameLaw s) (m : Nat) : FrameLaw (minuteWork m s) :=
  foldl_keeps (fun _ w hb => (hb.tickWork m w).same (settle_sameDay _)) _ _ (h.same ⟨rfl, rfl, rfl, rfl, rfl, rfl⟩)

theorem FrameLaw.clockTick {s : State} (h : FrameLaw s) : FrameLaw (clockTick s) where
  clock := by simpa using h.nextReading
  waiting := by simp
  unset := by simpa using h.unset
  half := by simpa using h.half
  range := by simpa using h.range
  both := by simpa using h.both

theorem FrameLaw.secondTick {s : State} (h : FrameLaw s) : FrameLaw (secondTick s) := by
  unfold Machine.secondTick
  refine FrameLaw.same ?_ (settle_sameDay _)
  split
  · exact h.clockTick.minuteWork _
  · exact h.clockTick

theorem FrameLaw.powerOn (straps : Straps) (n : Nat) (waiting : List Instr) :
    FrameLaw { State.powerOn straps with choice := n, pending := waiting } where
  clock := ⟨Nat.zero_le _, Nat.zero_le _, Nat.zero_le _⟩
  waiting _ h := nomatch h
  unset _ := ⟨rfl, rfl⟩
  half h := nomatch h
  range _ h := by rcases h with h | h <;> cases h
  both h := by rcases h with h | h | h <;> cases h

/-! ## The requests that write the clock and the frame -/

theorem setClockBody_frameLaw {s : State} (h : FrameLaw s) (p : PortNo) (args : List Byte) :
    Leaves FrameLaw (setClockBody p args s) := by
  unfold setClockBody
  simp only []
  split
  · next hh m sec =>
    split
    · trivial
    · next hr =>
      have hv : Time.Valid ⟨hh.toNat, m.toNat, sec.toNat⟩ := by
        simpa [Time.Valid, not_or, not_lt] using hr
      split
      · trivial
      · split
        · trivial
        · exact ⟨h.clock, fun v hv' => by cases hv'; exact hv, h.unset, h.half, h.range, h.both⟩
  · trivial

/-- The confirmation keeps the law, under the conditions of R9. -/
theorem FrameLaw.confirm {s : State} (h : FrameLaw s) {o z : Nat} (hz : z ≤ 1439)
    (hp : pairAllowed o z s.now = true) : FrameLaw (confirm o z s) := by
  simp only [pairAllowed, Bool.and_eq_true, decide_eq_true_eq] at hp
  refine h.withPair rfl rfl ?_ rfl rfl hp.1.2 hz
  simp only [Machine.confirm, raiseAll_day, raiseWindow_day, recomputeOffers_day, mapAtts_day]
  split <;> simp

/-- What a write of O or Z meets is there, in HALF, while the written minute is absent (R9). -/
theorem otherMinute_eq_some {own other : Option Nat} {s : State} {x : Nat} (h : otherMinute own other s = some x) :
    s.day = .half ∧ own = none ∧ other = some x := by
  unfold otherMinute at h
  split at h
  · next hc => exact ⟨hc.1, hc.2, h⟩
  · cases h

/-- A HALF frame that a write does not complete holds the written minute already (R9). -/
theorem otherMinute_eq_none {own other : Option Nat} {s : State} (h : otherMinute own other s = none)
    (hd : s.day = .half) (hone : own.isSome ≠ other.isSome) : own.isSome = true ∧ other = none := by
  unfold otherMinute at h
  cases own <;> cases other <;> simp_all

theorem writeOpen_armed (o : Nat) {s : State} (h : s.day = .armed) :
    writeOpen o s = raiseAll .frame (emptyBook { s with openMinute := some o, closeMinute := none, day := .half }) := by
  simp [writeOpen, h]

theorem writeOpen_unset (o : Nat) {s : State} (h : s.day = .unset) :
    writeOpen o s = raiseAll .frame { s with openMinute := some o, day := .half } := by
  simp [writeOpen, h]

theorem writeOpen_half (o : Nat) {s : State} (h : s.day = .half) : writeOpen o s = { s with openMinute := some o } := by
  simp [writeOpen, h]

theorem writeClose_armed (z : Nat) {s : State} (h : s.day = .armed) :
    writeClose z s = raiseAll .frame (emptyBook { s with openMinute := none, closeMinute := some z, day := .half }) := by
  simp [writeClose, h]

theorem writeClose_unset (z : Nat) {s : State} (h : s.day = .unset) :
    writeClose z s = raiseAll .frame { s with closeMinute := some z, day := .half } := by
  simp [writeClose, h]

theorem writeClose_half (z : Nat) {s : State} (h : s.day = .half) : writeClose z s = { s with closeMinute := some z } := by
  simp [writeClose, h]

theorem FrameLaw.writeOpen {s : State} (h : FrameLaw s) {o : Nat} (ho : o ≤ 1439) (hs : s.started = false)
    (hh : s.day = .half → s.closeMinute = none) : FrameLaw (writeOpen o s) := by
  have only : ∀ m, some o = some m ∨ none = some m → m ≤ 1439 := by rintro m (hm | hm) <;> cases hm; exact ho
  cases hd : s.day with
  | armed =>
    rw [writeOpen_armed o hd]
    exact h.withHalf rfl rfl rfl (by simp) only
  | unset =>
    obtain ⟨-, hz⟩ := h.unset hd
    rw [writeOpen_unset o hd]
    exact h.withHalf rfl rfl rfl (by simp [hz]) (by simpa [hz] using only)
  | half =>
    rw [writeOpen_half o hd]
    exact h.withHalf rfl rfl hd (by simp [hh hd]) (by simpa [hh hd] using only)
  | opened => simp [State.started, hd] at hs
  | ended => simp [State.started, hd] at hs

theorem FrameLaw.writeClose {s : State} (h : FrameLaw s) {z : Nat} (hz : z ≤ 1439) (hs : s.day ≠ .opened)
    (he : s.day ≠ .ended) (hh : s.day = .half → s.openMinute = none) : FrameLaw (writeClose z s) := by
  have only : ∀ m, none = some m ∨ some z = some m → m ≤ 1439 := by rintro m (hm | hm) <;> cases hm; exact hz
  cases hd : s.day with
  | armed =>
    rw [writeClose_armed z hd]
    exact h.withHalf rfl rfl rfl (by simp) only
  | unset =>
    obtain ⟨ho, -⟩ := h.unset hd
    rw [writeClose_unset z hd]
    exact h.withHalf rfl rfl rfl (by simp [ho]) (by simpa [ho] using only)
  | half =>
    rw [writeClose_half z hd]
    exact h.withHalf rfl rfl hd (by simp [hh hd]) (by simpa [hh hd] using only)
  | opened => exact absurd hd hs
  | ended => exact absurd hd he

theorem FrameLaw.moveClose {s : State} (h : FrameLaw s) {z : Nat} (hz : z ≤ 1439) (hs : s.day = .opened)
    (hm : moveAllowed s.o z s.now = true) : FrameLaw (moveClose z s) := by
  obtain ⟨o, -, ho, -, -⟩ := h.both (.inr (.inl hs))
  simp only [moveAllowed, State.o, ho, Option.getD_some, Bool.and_eq_true, decide_eq_true_eq] at hm
  unfold Machine.moveClose
  split
  · exact h
  · exact h.withPair rfl rfl (.inr (.inl hs)) ho rfl hm.2 hz

theorem frameOpenBody_frameLaw {s : State} (h : FrameLaw s) (p : PortNo) (args : List Byte) :
    Leaves FrameLaw (frameOpenBody p args s) := by
  unfold frameOpenBody
  simp only []
  split
  · split
    · trivial
    · next hr =>
      split
      · next hz =>
        obtain ⟨-, -, hz⟩ := otherMinute_eq_some hz
        split
        · trivial
        · next hp =>
          split
          · trivial
          · exact h.confirm (h.range _ (.inr hz)) (by simpa using hp)
      · next hn =>
        split
        · trivial
        · split
          · trivial
          · next hs =>
            exact h.writeOpen (Nat.le_of_not_lt hr) (by simpa using hs) fun hd =>
              (otherMinute_eq_none hn hd (h.half hd)).2
  · trivial

theorem frameCloseBody_frameLaw {s : State} (h : FrameLaw s) (p : PortNo) (args : List Byte) :
    Leaves FrameLaw (frameCloseBody p args s) := by
  unfold frameCloseBody
  simp only []
  split
  · split
    · trivial
    · next hr =>
      replace hr := Nat.le_of_not_lt hr
      split
      · split
        · trivial
        · next hp =>
          split
          · trivial
          · exact h.confirm hr (by simpa using hp)
      · next hn =>
        split
        · trivial
        · next hm =>
          split
          · trivial
          · split
            · trivial
            · next he =>
              split
              · next hs =>
                split
                · trivial
                · exact h.moveClose hr hs (by simpa [hs] using hm)
              · next hs =>
                exact h.writeClose hr hs he fun hd => (otherMinute_eq_none hn hd (h.half hd).symm).2
  · trivial

@[simp] theorem clearDay_clock (s : State) : (clearDay s).clock = s.clock := by simp [clearDay]
@[simp] theorem clearDay_pendingClock (s : State) : (clearDay s).pendingClock = s.pendingClock := by simp [clearDay]
@[simp] theorem clearDay_day (s : State) : (clearDay s).day = .unset := by simp [clearDay]
@[simp] theorem clearDay_openMinute (s : State) : (clearDay s).openMinute = none := by simp [clearDay]
@[simp] theorem clearDay_closeMinute (s : State) : (clearDay s).closeMinute = none := by simp [clearDay]

theorem clearDayBody_frameLaw {s : State} (h : FrameLaw s) (p : PortNo) (args : List Byte) :
    Leaves FrameLaw (clearDayBody p args s) := by
  unfold clearDayBody
  split
  · split
    · trivial
    · exact {
        clock := by simpa using h.clock
        waiting := by simpa using h.waiting
        unset := by simp
        half := by simp
        range := by simp
        both := by simp }
  · trivial

theorem body_frameLaw {s : State} (h : FrameLaw s) (row : Row) (p : PortNo) (args : List Byte) :
    Leaves FrameLaw (row.body p args s) := by
  by_cases hw : row.writesDay = true
  · cases row <;> try cases hw
    · exact setClockBody_frameLaw h p args
    · exact frameOpenBody_frameLaw h p args
    · exact frameCloseBody_frameLaw h p args
    · exact clearDayBody_frameLaw h p args
  · exact (body_sameDay (by simpa using hw) p args s).mono fun _ => h.same

/-- Every part of an event keeps the law of the clock and the frame. -/
theorem frameLaw_kept : Kept FrameLaw where
  queue _ _ h := h.same ⟨rfl, rfl, rfl, rfl, rfl, rfl⟩
  settle s h := h.same (settle_sameDay s)
  port _ _ _ h := h.same ⟨rfl, rfl, rfl, rfl, rfl, rfl⟩
  powerOn _ _ _ := FrameLaw.powerOn ..
  lineReset _ _ h := {
    clock := h.clock
    waiting := fun _ hv => nomatch hv
    unset := h.unset
    half := h.half
    range := h.range
    both := h.both }
  tick _ h := h.secondTick
  sample levels s h := h.same (sampleLines_sameDay levels s)
  scan _ h := h.same ⟨rfl, rfl, rfl, rfl, rfl, rfl⟩
  start s h := h.same (startFrame_sameDay s)
  body row p args _ h := body_frameLaw h row p args

end Sys2Proof.Machine

namespace Sys2Proof.Proofs

open Sys2Proof.Machine

/-- Settles O59: every part of an event keeps O, Z and the clock within the law of the frame state. -/
theorem frameKept : Obligations.FrameKept := fun _ _ h hx => frameLaw_kept.step h hx

end Sys2Proof.Proofs
end

section
/-! PROOFS. The requests of the clock and the frame that change no book: STATUS, READ_CLOCK and SET_CLOCK (R4, R7, R180). -/

namespace Sys2Proof.Machine

/-! ## From a row's body to what its command does -/

/-- A port holds a request of a row, which its role may send. -/
structure Takes (row : Row) (s : State) (p : PortNo) (args : List Byte) : Prop where
  sent : Sent s p row.kind args
  names : Names row args
  known : row ≠ .unknownRequest
  permitted : permits row (s.port p).role = true

/-- A request that its row's body rejects is refused. -/
theorem Takes.refuses {row : Row} {s : State} {p : PortNo} {args : List Byte} (h : Takes row s p args) {c : ResultCode}
    (hb : row.body p args s = reject c) : Refuses (row.command p) s p row.kind c := by
  rw [Refuses, exec_command, carryOut_refused h.sent h.names h.known h.permitted hb]

/-- What a request that its row's body accepts leaves. -/
theorem Takes.exec {row : Row} {s t : State} {p : PortNo} {args data : List Byte} (h : Takes row s p args)
    (hb : row.body p args s = accept t data) :
    Machine.exec (row.command p) s =
      .next ((settle t).withReply p (replyFrame row.kind ResultCode.done.value data)) := by
  rw [exec_command, carryOut_accepted h.sent h.names h.known h.permitted hb]

/-- A request that its row's body accepts with a settled state grants that state. -/
theorem Takes.grants {row : Row} {s t : State} {p : PortNo} {args data : List Byte} (h : Takes row s p args)
    (hb : row.body p args s = accept t data) (ht : Settled t) : Grants (row.command p) s p row.kind t data := by
  rw [Grants, h.exec hb, settle_of_settled ht]

/-- A request of an OPS port under a row that has its kind byte to itself. -/
theorem takes_ops {row : Row} {s : State} {p : PortNo} {args : List Byte} (hs : Sent s p row.kind args)
    (ha : row.alone = true) (hr : (s.port p).role = .ops) (hp : permits row .ops = true) : Takes row s p args :=
  ⟨hs, names_alone ha args, fun e => (by rw [e] at ha; cases ha), hr ▸ hp⟩

/-- A request that every role may send, under a row that has its kind byte to itself. -/
theorem takes_any {row : Row} {s : State} {p : PortNo} {args : List Byte} (hs : Sent s p row.kind args)
    (ha : row.alone = true) (hp : ∀ r, permits row r = true) : Takes row s p args :=
  ⟨hs, names_alone ha args, fun e => (by rw [e] at ha; cases ha), hp _⟩

/-! ## The leading event -/

/-- The first kind of a byte in the default order: none where no flag is set, else the lowest number set (R176). -/
theorem firstKind_spec (b : Byte) :
    (firstKind b = 0 ∧ ∀ k : EventKind, k.inMask b = false) ∨
      ∃ k : EventKind, firstKind b = k.number ∧ k.inMask b = true ∧ ∀ j : EventKind, j.inMask b = true → k.number ≤ j.number := by
  have hall : ∀ k : EventKind, k ∈ defaultOrder := fun k => by cases k <;> decide
  have hsorted : defaultOrder.Pairwise (fun j k => j.number ≤ k.number) := by decide
  unfold firstKind
  cases hf : defaultOrder.find? (·.inMask b) with
  | none =>
    rw [List.find?_eq_none] at hf
    exact .inl ⟨rfl, fun k => by simpa using hf k (hall k)⟩
  | some k =>
    obtain ⟨hk, before, behind, ho, hb⟩ := List.find?_eq_some_iff_append.mp hf
    refine .inr ⟨k, rfl, hk, fun j hj => ?_⟩
    have hmem : j ∈ before ++ k :: behind := ho ▸ hall j
    rw [ho] at hsorted
    rcases List.mem_append.mp hmem with h | h
    · simpa [hj] using hb j h
    · rcases List.mem_cons.mp h with rfl | h
      · exact Nat.le_refl _
      · exact (List.pairwise_cons.mp (List.pairwise_append.mp hsorted).2.1).1 j h

theorem EventKind.number_ne_zero (k : EventKind) : k.number ≠ 0 := by cases k <;> decide

/-- The number a port reports is its leading event (R180). -/
theorem leadingEvent_leads (q : Port) : q.Leads (leadingEvent q) := by
  have hhigh : ∀ k : EventKind, k.inMask (q.flags &&& q.level) = (q.has k && q.high k) := fun k => inMask_and ..
  unfold leadingEvent
  obtain ⟨h0, hn⟩ | ⟨k, hk, hset, hmin⟩ := firstKind_spec (q.flags &&& q.level)
  · rw [if_neg (by simp [h0])]
    have hlow : ∀ j, q.has j = true → q.high j = false := fun j hj => by
      have := hn j
      rwa [hhigh, hj, Bool.true_and] at this
    obtain ⟨h, hn⟩ | ⟨j, hj, hset, hmin⟩ := firstKind_spec q.flags
    · exact .inl ⟨h, hn⟩
    · exact .inr ⟨j, hj, hset, .inr ⟨hlow, hmin⟩⟩
  · rw [if_pos (by rw [hk]; exact k.number_ne_zero), hk]
    simp only [hhigh, Bool.and_eq_true] at hset hmin
    exact .inr ⟨k, rfl, hset.1, .inl ⟨hset.2, fun j hj hh => hmin j ⟨hj, hh⟩⟩⟩

/-! ## STATUS and READ_CLOCK -/

/-- The clock byte, bit by bit (R185). -/
theorem clockByte_eq (s : State) :
    clockByte s = (if s.clockSet then 1 else 0) + (if s.pendingClock = none then 0 else 2) +
      (if s.openMinute = none then 0 else 4) + (if s.closeMinute = none then 0 else 8) := by
  unfold clockByte
  cases s.pendingClock <;> cases s.openMinute <;> cases s.closeMinute <;> rfl

/-! ## SET_CLOCK -/

theorem started_iff (s : State) : s.started = true ↔ s.day = .opened ∨ s.day = .ended := by
  simp [State.started]

theorem valid_iff (v : Time) : v.Valid ↔ ¬ (23 < v.hours ∨ 59 < v.minutes ∨ 59 < v.seconds) := by
  simp [Time.Valid]

end Sys2Proof.Machine

namespace Sys2Proof.Proofs

open Sys2Proof.Machine

/-- Settles O19: the two replies byte for byte, from a state that settling leaves as it is. -/
theorem statusAndReadClock : Obligations.StatusAndReadClock := by
  refine ⟨fun s p hs hr => ⟨_, leadingEvent_leads (s.port p), ?_⟩, fun s p hs hr => ?_⟩
  · exact (takes_any (row := .status) hr rfl fun _ => rfl).grants rfl hs
  · refine (takes_any (row := .readClock) hr rfl fun _ => rfl).grants (t := s) ?_ hs
    simp only [Row.body, readClockBody, clockByte_eq]
    cases s.pendingClock <;> rfl

/-- Settles O27: the value's range, the two limits of OPEN and ENDED, and the pending value written. -/
theorem setClock : Obligations.SetClock := by
  intro s p h m sec v hs hr hrole hv
  have ht : Takes .setClock s p [h, m, sec] := takes_ops hr rfl hrole rfl
  have hbody : Row.setClock.body p [h, m, sec] s =
      if 23 < v.hours ∨ 59 < v.minutes ∨ 59 < v.seconds then reject .badArgument
      else if s.started ∧ v.second < s.clock.second then reject .clockBack
      else if s.started ∧ s.clock.second + 3600 < v.second then reject .stepTooLarge
      else accept { s with pendingClock := some v } [] := hv ▸ rfl
  simp only [started_iff] at hbody
  refine ⟨fun hn => ht.refuses ?_, fun hv => ⟨fun hd hb => ht.refuses ?_, fun hd hb => ht.refuses ?_, fun hd => ?_⟩⟩
  · rw [hbody, if_pos (by rwa [valid_iff, not_not] at hn)]
  · rw [hbody, if_neg ((valid_iff v).mp hv), if_pos ⟨hd, hb⟩]
  · rw [hbody, if_neg ((valid_iff v).mp hv), if_neg (fun hc => absurd hc.2 (by omega)), if_pos ⟨hd, hb⟩]
  · refine ht.grants ?_ (hs.same rfl rfl rfl)
    rw [hbody, if_neg ((valid_iff v).mp hv), if_neg, if_neg]
    · exact fun hc => absurd (hd hc.1).2 (by omega)
    · exact fun hc => absurd (hd hc.1).1 (by omega)

end Sys2Proof.Proofs
end

section
/-! PROOFS. The frame pair and CLEAR_DAY: what a confirmation builds, what an emptied book leaves, how Z moves (R8 to R16, R86
to R93). -/

namespace Sys2Proof.Machine

/-! ## What these requests leave alone -/

/-- Outside the frame, the attractions and the ports, nothing has changed. -/
theorem keepsBut_frame {s u : State} (hc : Part.clock.same s u) (hp : Part.passes.same s u)
    (ho : u.postings = s.postings) (hl : u.lines = s.lines) (he : u.entries = s.entries) (hd : u.dirty = s.dirty)
    (hf : u.refresh = s.refresh) (hb : u.board = s.board) (hn : u.choice = s.choice) (hq : u.pending = s.pending) :
    KeepsBut [.attractions, .ports, .frame] s u := by
  intro x hx
  cases x with
  | clock => exact hc
  | passes => exact hp
  | postings => exact ho
  | lines => exact hl
  | entries => exact he
  | dirty => exact hd
  | refresh => exact hf
  | board => exact hb
  | choice => exact hn
  | pending => exact hq
  | frame => simp at hx
  | attractions => simp at hx
  | ports => simp at hx

/-- A request of the clock and frame unit carries out what its body hands over: a state that differs in the frame, the
attractions and the flags of the ports. -/
theorem Takes.carries {row : Row} {s u : State} {p : PortNo} {args : List Byte} {raised : PortNo → EventKind → Bool}
    {effect : State → Prop} (h : Takes row s p args) (hb : row.body p args s = accept u [])
    (hk : KeepsBut [.attractions, .ports, .frame] s u) (hp : ∀ q, (s.port q).OnlyFlags (u.port q))
    (hr : Raises s u raised) (he : effect ((settle u).withReply p (replyFrame row.kind ResultCode.done.value []))) :
    Carries (row.command p) s p row.kind [] [.frame] raised effect := by
  refine carries_settle (h.exec hb) (hk .postings (by simp)) (hk .dirty (by simp)) (hk .entries (by simp)) hp hr
    (fun x hx => hk x ?_) he
  cases x <;> simp at hx ⊢

/-! ## The events -/

theorem Port.OnlyFlags.raise {q r : Port} (h : q.OnlyFlags r) (k : EventKind) : q.OnlyFlags (r.raise k) :=
  ⟨⟨h.like.role, h.like.period, h.like.shadow, h.like.enable, h.like.level⟩, h.link, h.changed⟩

/-- A port with a flag set where a condition holds. -/
def Port.raiseIf (q : Port) (k : EventKind) (b : Bool) : Port := if b then q.raise k else q

@[simp] theorem has_raiseIf (q : Port) (k j : EventKind) (b : Bool) :
    (q.raiseIf k b).has j = (q.has j || decide (j = k) && b) := by
  cases b <;> simp [Port.raiseIf]

@[simp] theorem raiseIf_shadow (q : Port) (k : EventKind) (b : Bool) : (q.raiseIf k b).shadow = q.shadow := by
  cases b <;> rfl

theorem Port.OnlyFlags.raiseIf {q r : Port} (h : q.OnlyFlags r) (k : EventKind) (b : Bool) :
    q.OnlyFlags (r.raiseIf k b) := by
  cases b
  · exact h
  · exact h.raise k

theorem onlyFlags_raiseWindow (hit : AttrNo → Bool) (s : State) (q : PortNo) :
    (s.port q).OnlyFlags ((raiseWindow hit s).port q) := by
  rw [raiseWindow_port]
  split
  · exact Port.onlyFlags_raise _ _
  · exact .rfl

/-- WINDOW at the ports whose shadow meets a test, and no other event. -/
theorem raises_window (hit : AttrNo → Bool) {s t : State} (hp : t.ports = s.ports) :
    Raises s (raiseWindow hit t) (windowWhere s hit) := by
  intro q k _
  rw [raiseWindow_port, port_congr hp, windowWhere]
  cases (s.port q).namesSome hit <;> simp

/-- FRAME at every port, beside WINDOW at those whose shadow meets a test. -/
theorem raises_frame_window (hit : AttrNo → Bool) {s t : State} (hp : t.ports = s.ports) :
    Raises s (raiseAll .frame (raiseWindow hit t)) (both (everywhere .frame) (windowWhere s hit)) := by
  intro q k hk
  rw [raiseAll_port, has_raise, raises_window hit hp q k hk, both, everywhere]
  cases (s.port q).has k <;> simp [Bool.or_comm]

/-! ## Offers -/

/-- The offer of a moment depends on no offer held, and on the state through the frame, O and the clock (R108). -/
theorem offerNow_congr {s t : State} (hd : t.day = s.day) (ho : t.o = s.o) (hn : t.now = s.now) (r : Attraction)
    (x : Option Nat) : offerNow t { r with offer := x } = offerNow s r := by
  simp only [offerNow, hd, ho, hn]
  rfl

/-! ## Lists as built -/

theorem getElem?_builtByTime {now o z : Nat} {d : Descriptor} {down : Bool} {w : Nat} {x : Window}
    (h : (builtByTime now o z d down)[w]? = some x) : x = setByTime now o z d down w (newWindow d) := by
  simp only [builtByTime, builtList, List.getElem?_mapIdx, List.getElem?_replicate] at h
  split at h
  · simpa using h.symm
  · simp at h

/-- A window set by time has the state and the ended-at minute of R90, and keeps its quota and counts. -/
theorem setByTime_spec (now o z : Nat) (d : Descriptor) (down : Bool) (w : Nat) (x : Window) :
    SetByTime now o z d down w (setByTime now o z d down w x) := by
  obtain ⟨c, hc⟩ : ∃ c, closingTime o z d w = c := ⟨_, rfl⟩
  have hc' : min (o + w * d.length + d.length + d.lateGrace) z = c := hc
  simp only [SetByTime, setByTime, openedBy, windowStart, hc, hc', Config.retention]
  by_cases hopen : o + w * d.length ≤ now + d.earlyGrace
  · simp only [hopen, not_lt.mpr hopen, decide_true, Bool.not_true, Bool.false_eq_true, if_false]
    split_ifs <;> exact ⟨rfl, rfl⟩
  · simp [hopen, not_le.mp hopen]

theorem setByTime_keeps (now o z : Nat) (d : Descriptor) (down : Bool) (w : Nat) (x : Window) :
    (setByTime now o z d down w x).quota = x.quota ∧ (setByTime now o z d down w x).booked = x.booked ∧
      (setByTime now o z d down w x).arrived = x.arrived := by
  unfold setByTime
  repeat' split
  all_goals exact ⟨rfl, rfl, rfl⟩

/-- The list a confirmation gives an attraction in use is as R86, R87, R89 and R90 say. -/
theorem built_spec (opens : Bool) (now o z : Nat) (d : Descriptor) (down : Bool) :
    Built opens now o z d down (if opens then builtByTime now o z d down else builtList o z d) := by
  cases opens with
  | false =>
    exact {
      length := by simp [builtList, windowCount, Config.maxWindows]
      fresh := fun x hx => by obtain rfl := List.eq_of_mem_replicate hx; exact ⟨rfl, rfl, rfl⟩
      future := fun _ x hx => by obtain rfl := List.eq_of_mem_replicate hx; exact ⟨rfl, rfl⟩
      byTime := fun h => nomatch h }
  | true =>
    exact {
      length := by simp [builtByTime, builtList, windowCount, Config.maxWindows]
      fresh := fun x hx => by
        obtain ⟨w, hw⟩ := List.mem_iff_getElem?.mp hx
        obtain rfl := getElem?_builtByTime hw
        exact setByTime_keeps ..
      future := fun h => nomatch h
      byTime := fun _ w x hw => by
        obtain rfl := getElem?_builtByTime hw
        exact setByTime_spec .. }

/-! ## The confirmation -/

theorem confirm_att (o z : Nat) (s : State) (a : AttrNo) :
    (confirm o z s).att a = { buildFor (decide (o ≤ s.now)) s.now o z (s.att a) with
      offer := offerNow (confirm o z s) (buildFor (decide (o ≤ s.now)) s.now o z (s.att a)) } := by
  simp only [confirm, raiseAll_att, raiseWindow_att, recomputeOffers_att, att_mapAtts]
  rfl

/-- A record in use is given a list; an UNUSED one stays as it is (R89, R90). -/
theorem buildFor_inUse {opens : Bool} {now o z : Nat} {r : Attraction} (h : r.state ≠ .unused) :
    buildFor opens now o z r = { r with windows := some (if opens then builtByTime now o z r.desc (r.state = .down)
      else builtList o z r.desc) } := by
  simp [buildFor, Attraction.inUse, h]

theorem buildFor_unused {opens : Bool} {now o z : Nat} {r : Attraction} (h : r.state = .unused) :
    buildFor opens now o z r = r := by
  simp [buildFor, Attraction.inUse, h]

theorem confirm_confirmed (o z : Nat) (s : State) (p : PortNo) (reply : List Byte) :
    Confirmed s ((settle (confirm o z s)).withReply p reply) o z where
  day := by simp [confirm]
  open_ := rfl
  close := rfl
  records a := by
    simp only [withReply_att, settle_att, confirm_att]
    by_cases hu : (s.att a).state = .unused
    · rw [buildFor_unused hu]
    · rw [buildFor_inUse hu]
  built a hu := by
    refine ⟨_, ?_, built_spec ..⟩
    simp only [withReply_att, settle_att, confirm_att]
    rw [buildFor_inUse hu]
  unused a hu := by
    simp only [withReply_att, settle_att, confirm_att]
    rw [buildFor_unused hu]
  offers a := by
    simp only [withReply_att, settle_att]
    rw [confirm_att]
    rfl

/-- The confirmation raises FRAME everywhere and WINDOW for every list built, one of no windows too (R16, R102; log 18). -/
theorem Takes.confirms {row : Row} {s : State} {p : PortNo} {args : List Byte} {o z : Nat} (h : Takes row s p args)
    (hb : row.body p args s = accept (confirm o z s) []) :
    Carries (row.command p) s p row.kind [] [.frame]
      (both (everywhere .frame) (windowWhere s fun a => (s.att a).inUse)) fun t => Confirmed s t o z :=
  h.carries hb (keepsBut_frame ⟨rfl, rfl, rfl⟩ ⟨rfl, rfl⟩ rfl rfl rfl rfl rfl rfl rfl rfl)
    (fun q => by rw [confirm, raiseAll_port]; exact (onlyFlags_raiseWindow _ _ q).raise _)
    (raises_frame_window _ rfl) (confirm_confirmed ..)

/-! ## The empty book -/

theorem emptyBook_att (s : State) (a : AttrNo) :
    (emptyBook s).att a = { s.att a with windows := none, offer := none } := by
  simp [emptyBook]

/-- A return to HALF with an empty book raises FRAME everywhere and WINDOW for every list removed (R11, R16, R102). -/
theorem Takes.reopens {row : Row} {s : State} {p : PortNo} {args : List Byte} {o z : Option Nat} (h : Takes row s p args)
    (hb : row.body p args s =
      accept (raiseAll .frame (emptyBook { s with openMinute := o, closeMinute := z, day := .half })) []) :
    Carries (row.command p) s p row.kind [] [.frame]
      (both (everywhere .frame) (windowWhere s fun a => (s.att a).windows.isSome)) fun t =>
      t.day = .half ∧ t.openMinute = o ∧ t.closeMinute = z ∧ Emptied s t := by
  refine h.carries hb (keepsBut_frame ⟨rfl, rfl, rfl⟩ ⟨rfl, rfl⟩ rfl rfl rfl rfl rfl rfl rfl rfl) (fun q => ?_)
    (raises_frame_window _ rfl) ⟨rfl, rfl, rfl, fun a => ?_⟩
  · rw [raiseAll_port]
    exact (onlyFlags_raiseWindow _ _ q).raise _
  · rw [withReply_att, settle_att, raiseAll_att, emptyBook_att]
    rfl

/-! ## FRAME_OPEN and FRAME_CLOSE -/

/-- An edge-type event at every port leaves a settled part settled. -/
theorem Settled.raiseAll {s : State} (h : Settled s) {k : EventKind} (hk : k.edge = true) :
    Settled (raiseAll k s) := by
  have other : ∀ j : EventKind, j.edge = false → ∀ q, ((Machine.raiseAll k s).port q).has j = (s.port q).has j := by
    intro j hj q
    rw [raiseAll_port, has_raise, decide_eq_false (fun e => by rw [e, hk] at hj; cases hj), Bool.or_false]
  exact {
    postings := h.postings
    stale := fun q => by rw [other _ rfl, h.stale q, raiseAll_port]; rfl
    aged := fun q => (other _ rfl q).trans (h.aged q)
    posting := fun q => by rw [other _ rfl, h.posting q, raiseAll_port]; rfl }

theorem pairAllowed_iff (o z now : Nat) : pairAllowed o z now = true ↔ o + 30 ≤ z ∧ now < z := by
  simp only [pairAllowed, Bool.and_eq_true, decide_eq_true_eq]
  simp only [Config.leastFrame]
  omega

/-- FRAME_OPEN outside a confirmation (R8, R9, R11, R14). -/
theorem frameOpenBody_write {p : PortNo} {hi lo : Byte} {s : State} (ho : u16 hi lo ≤ 1439)
    (h : otherMinute s.openMinute s.closeMinute s = none) :
    frameOpenBody p [hi, lo] s =
      if !s.clockSet then reject .clockUnset else if s.started then reject .frameState
      else accept (writeOpen (u16 hi lo) s) [] := by
  simp [frameOpenBody, not_lt.mpr ho, h]

/-- FRAME_OPEN at a confirmation (R9). -/
theorem frameOpenBody_confirm {p : PortNo} {hi lo : Byte} {s : State} {z : Nat} (ho : u16 hi lo ≤ 1439)
    (h : otherMinute s.openMinute s.closeMinute s = some z) :
    frameOpenBody p [hi, lo] s =
      if !pairAllowed (u16 hi lo) z s.now then reject .badArgument else if !s.clockSet then reject .clockUnset
      else accept (confirm (u16 hi lo) z s) [] := by
  simp [frameOpenBody, not_lt.mpr ho, h]

/-- FRAME_CLOSE outside OPEN and outside a confirmation (R8, R9, R11, R14). -/
theorem frameCloseBody_write {p : PortNo} {hi lo : Byte} {s : State} (hz : u16 hi lo ≤ 1439) (hd : s.day ≠ .opened)
    (h : otherMinute s.closeMinute s.openMinute s = none) :
    frameCloseBody p [hi, lo] s =
      if !s.clockSet then reject .clockUnset else if s.day = .ended then reject .frameState
      else accept (writeClose (u16 hi lo) s) [] := by
  simp [frameCloseBody, not_lt.mpr hz, h, hd]

/-- FRAME_CLOSE at a confirmation (R9). -/
theorem frameCloseBody_confirm {p : PortNo} {hi lo : Byte} {s : State} {o : Nat} (hz : u16 hi lo ≤ 1439)
    (h : otherMinute s.closeMinute s.openMinute s = some o) :
    frameCloseBody p [hi, lo] s =
      if !pairAllowed o (u16 hi lo) s.now then reject .badArgument else if !s.clockSet then reject .clockUnset
      else accept (confirm o (u16 hi lo) s) [] := by
  simp [frameCloseBody, not_lt.mpr hz, h]

/-- FRAME_CLOSE in OPEN (R12, R92). -/
theorem frameCloseBody_move {p : PortNo} {hi lo : Byte} {s : State} (hz : u16 hi lo ≤ 1439) (hd : s.day = .opened) :
    frameCloseBody p [hi, lo] s =
      if !moveAllowed s.o (u16 hi lo) s.now then reject .badArgument else if !s.clockSet then reject .clockUnset
      else if u16 hi lo < s.z ∧ s.attractions.toList.any (cutInUse s.o (u16 hi lo)) then reject .inUse
      else accept (moveClose (u16 hi lo) s) [] := by
  simp [frameCloseBody, not_lt.mpr hz, otherMinute, hd]

theorem otherMinute_some {own other : Option Nat} {s : State} {x : Nat} (hd : s.day = .half) (ho : own = none)
    (hx : other = some x) : otherMinute own other s = some x := by
  simp [otherMinute, hd, ho, hx]

/-- Outside HALF, and where the written minute is there already, no write confirms (R9). -/
theorem otherMinute_none {own other : Option Nat} {s : State} (h : ¬ (s.day = .half ∧ own = none ∧ other ≠ none)) :
    otherMinute own other s = none := by
  unfold otherMinute
  split
  · next hc => simpa [hc.1, hc.2] using h
  · rfl

/-- What a request that meets the other minute of a HALF frame does: the conditions of the pair, the clock-set flag, the
confirmation (R9). -/
theorem Takes.confirmation {row : Row} {s : State} {p : PortNo} {args : List Byte} {o z : Nat} (h : Takes row s p args)
    (hb : row.body p args s = if !pairAllowed o z s.now then reject .badArgument
      else if !s.clockSet then reject .clockUnset else accept (confirm o z s) []) :
    (¬ (o < z ∧ o + 30 ≤ z ∧ s.now < z) → Refuses (row.command p) s p row.kind .badArgument) ∧
      (o + 30 ≤ z → s.now < z → s.clockSet = false → Refuses (row.command p) s p row.kind .clockUnset) ∧
      (o + 30 ≤ z → s.now < z → s.clockSet = true →
        Carries (row.command p) s p row.kind [] [.frame]
          (both (everywhere .frame) (windowWhere s fun a => (s.att a).inUse)) fun t => Confirmed s t o z) := by
  refine ⟨fun hn => h.refuses ?_, fun h1 h2 hc => h.refuses ?_, fun h1 h2 hc => h.confirms ?_⟩
  · have : pairAllowed o z s.now = false := by
      rw [Bool.eq_false_iff, ne_eq, pairAllowed_iff]
      omega
    simp [hb, this]
  · simp [hb, (pairAllowed_iff _ _ _).mpr ⟨h1, h2⟩, hc]
  · simp [hb, (pairAllowed_iff _ _ _).mpr ⟨h1, h2⟩, hc]

/-! ## The move of Z -/

theorem moveAllowed_iff (o z now : Nat) : moveAllowed o z now = true ↔ now + 2 ≤ z ∧ o + 30 ≤ z := by
  simp only [moveAllowed, Bool.and_eq_true, decide_eq_true_eq]
  simp only [Config.leastFrame]
  omega

/-- A shortening removes a window in use exactly where a window from the new count on is not FUTURE or is booked (R92). -/
theorem cutInUse_iff (o z : Nat) (r : Attraction) :
    cutInUse o z r = true ↔
      ∃ w x, r.window w = some x ∧ min 64 ((z - o) / r.desc.length) ≤ w ∧ (x.state ≠ .future ∨ 0 < x.booked) := by
  simp only [cutInUse, List.any_eq_true, List.mem_iff_getElem?, List.getElem?_drop, Attraction.window, Bool.or_eq_true,
    bne_iff_ne, decide_eq_true_eq]
  constructor
  · rintro ⟨x, ⟨i, hi⟩, hx⟩
    exact ⟨_, x, hi, Nat.le_add_right _ _, hx⟩
  · rintro ⟨w, x, hw, hle, hx⟩
    obtain ⟨i, rfl⟩ := Nat.exists_eq_add_of_le hle
    exact ⟨x, ⟨i, hw⟩, hx⟩

/-- Some attraction has a property exactly where a record of the table has it. -/
theorem any_attractions (s : State) (f : Attraction → Bool) :
    s.attractions.toList.any f = true ↔ ∃ a, f (s.att a) = true := by
  simp only [List.any_eq_true, State.att]
  constructor
  · rintro ⟨r, hr, h⟩
    obtain ⟨i, hi, rfl⟩ := List.mem_iff_getElem.mp hr
    exact ⟨⟨i, by simpa using hi⟩, by simpa using h⟩
  · rintro ⟨a, h⟩
    exact ⟨s.attractions[a], by simp, h⟩

theorem resized_eq (o z : Nat) (d : Descriptor) (later : Prop) [Decidable later] :
    resized o z d (decide later) = fun ws =>
      if later then ws ++ List.replicate (windowCount o z d - ws.length) (newWindow d) else ws.take (windowCount o z d) := by
  funext ws
  simp [resized]

/-- A record whose list is lengthened or shortened for a new Z (R91, R92). -/
def resizeFor (z : Nat) (s : State) (r : Attraction) : Attraction :=
  { r with windows := r.windows.map (resized s.o z r.desc (decide (s.z < z))) }

/-- The state after a move of Z, before WINDOW is raised (R91, R92, R109). -/
def resizedDay (z : Nat) (s : State) : State :=
  recomputeOffers ({ s with closeMinute := some z }.mapAtts (resizeFor z s))

theorem moveClose_same {z : Nat} {s : State} (h : z = s.z) : moveClose z s = s := if_pos h

theorem moveClose_move {z : Nat} {s : State} (h : z ≠ s.z) :
    moveClose z s =
      raiseWindow (fun a => (s.att a).list.length != (resizeFor z s (s.att a)).list.length) (resizedDay z s) := if_neg h

theorem resizedDay_att (z : Nat) (s : State) (a : AttrNo) :
    (resizedDay z s).att a =
      { resizeFor z s (s.att a) with offer := offerNow (resizedDay z s) (resizeFor z s (s.att a)) } := by
  simp only [resizedDay, recomputeOffers_att, att_mapAtts]
  rfl

/-- The count of a list changes where a later Z adds windows to it, and where an earlier Z cuts windows off it (R91, R92). -/
theorem length_resizeFor (z : Nat) (s : State) (r : Attraction) :
    (r.list.length != (resizeFor z s r).list.length) =
      if s.z < z then decide (0 < windowCount s.o z r.desc - r.list.length) && r.windows.isSome
      else decide (windowCount s.o z r.desc < r.list.length) := by
  rw [Bool.eq_iff_iff]
  by_cases h : s.z < z <;> cases hw : r.windows <;> simp [resizeFor, resized, Attraction.list, hw, h]
  omega

/-- What a move of Z hands over (R12, R91, R92, R102, R109; log 17). -/
theorem Takes.moves {row : Row} {s : State} {p : PortNo} {args : List Byte} {o z new : Nat} (h : Takes row s p args)
    (hd : s.day = .opened) (ho : s.openMinute = some o) (hz : s.closeMinute = some z) (hne : new ≠ z)
    (hb : row.body p args s = accept (moveClose new s) []) :
    Carries (row.command p) s p row.kind [] [.frame]
      (windowWhere s fun a =>
        if z < new then decide (0 < windowCount o new (s.att a).desc - (s.att a).list.length) && (s.att a).windows.isSome
        else decide (windowCount o new (s.att a).desc < (s.att a).list.length)) fun t =>
      t.day = .opened ∧ t.openMinute = some o ∧ t.closeMinute = some new ∧
      ∀ a, (t.att a).offer = offerNow t (t.att a) ∧
        t.att a = { s.att a with
          windows := (s.att a).windows.map fun ws =>
            if z < new then
              ws ++ List.replicate (windowCount o new (s.att a).desc - ws.length) (newWindow (s.att a).desc)
            else ws.take (windowCount o new (s.att a).desc)
          offer := (t.att a).offer } := by
  have hso : s.o = o := by simp [State.o, ho]
  have hsz : s.z = z := by simp [State.z, hz]
  have hhit : (fun a => (s.att a).list.length != (resizeFor new s (s.att a)).list.length) = _ :=
    funext fun a => length_resizeFor new s (s.att a)
  rw [moveClose_move (by rwa [hsz]), hhit, hso, hsz] at hb
  refine h.carries hb (keepsBut_frame ⟨rfl, rfl, rfl⟩ ⟨rfl, rfl⟩ rfl rfl rfl rfl rfl rfl rfl rfl)
    (onlyFlags_raiseWindow _ (resizedDay new s)) (raises_window _ rfl) ⟨hd, ho, rfl, fun a => ?_⟩
  rw [withReply_att, settle_att, raiseWindow_att, resizedDay_att, resizeFor, hso, hsz, resized_eq]
  exact ⟨rfl, rfl⟩

/-! ## CLEAR_DAY -/

theorem clearDay_att (s : State) (a : AttrNo) :
    (clearDay s).att a = clearRecord { s.att a with windows := none, offer := none } := by
  simp only [clearDay, raiseAllIf_att, att_mapAtts, emptyBook_att]
  rfl

/-- A record that runs is CLOSED with its counts 0 by CLEAR_DAY; another stays (R15, R37, R48). -/
theorem clearRecord_eq (r : Attraction) :
    clearRecord r = if r.state = .operating ∨ r.state = .down then
      { r with state := .closed, q := 0, m := 0, riders := 0 } else r := by
  simp [clearRecord, Attraction.running, zeroCounts]

theorem clearDay_port (s : State) (q : PortNo) :
    (clearDay s).port q =
      (((s.port q).raiseIf .window ((s.port q).namesSome fun a => (s.att a).windows.isSome)).raiseIf .attraction
        (s.attractions.toList.any (·.running))).raiseIf .frame (s.day != .unset) := by
  simp only [clearDay, raiseAllIf_port, emptyBook, port_mapAtts, raiseWindow_port]
  rfl

theorem clearDay_keepsBut (s : State) : KeepsBut [.attractions, .ports, .frame] s (clearDay s) := by
  unfold clearDay
  cases s.day != .unset <;> cases s.attractions.toList.any (·.running) <;>
    exact keepsBut_frame ⟨rfl, rfl, rfl⟩ ⟨rfl, rfl⟩ rfl rfl rfl rfl rfl rfl rfl rfl

end Sys2Proof.Machine

namespace Sys2Proof.Proofs

open Sys2Proof.Machine

/-- Settles O28: the checks in their order, the three writes, and the confirmation where O completes the pair. -/
theorem frameOpen : Obligations.FrameOpen := by
  intro s p hi lo o hs hr hrole ho
  obtain rfl : u16 hi lo = o := ho.symm
  have ht : Takes .frameOpen s p [hi, lo] := takes_ops hr rfl hrole rfl
  have write : ∀ _ : u16 hi lo ≤ 1439, ∀ _ : ¬ (s.day = .half ∧ s.openMinute = none ∧ s.closeMinute ≠ none),
      Row.frameOpen.body p [hi, lo] s =
        if !s.clockSet then reject .clockUnset else if s.started then reject .frameState
        else accept (writeOpen (u16 hi lo) s) [] := fun ho h => frameOpenBody_write (p := p) ho (otherMinute_none h)
  refine ⟨fun ho => ht.refuses (if_pos ho), fun ho => ⟨fun hn hc => ht.refuses ?_, fun hc hd => ht.refuses ?_,
    fun hc hd => ht.grants ?_ ?_, fun hc hd ho' => ht.grants ?_ ?_, fun hc hd => ht.reopens ?_, fun z hd ho' hz =>
    ht.confirmation (frameOpenBody_confirm (p := p) ho (otherMinute_some hd ho' hz))⟩⟩
  · simp [write ho hn, hc]
  · rw [write ho (by rcases hd with hd | hd <;> simp [hd]), (started_iff s).mpr hd]
    simp [hc]
  · rw [write ho (by simp [hd]), writeOpen_unset _ hd]
    simp [hc, State.started, hd, raiseAll]
  · have hw : Settled { s with openMinute := some (u16 hi lo), day := .half } := hs.same rfl rfl rfl
    exact hw.raiseAll (k := .frame) rfl
  · rw [write ho (by simp [ho']), writeOpen_half _ hd]
    simp [hc, State.started, hd]
  · exact hs.same rfl rfl rfl
  · rw [write ho (by simp [hd]), writeOpen_armed _ hd]
    simp [hc, State.started, hd]

/-- Settles O29: the checks in their order, the three writes, and the confirmation where Z completes the pair. -/
theorem frameClose : Obligations.FrameClose := by
  intro s p hi lo z hs hr hrole hz
  obtain rfl : u16 hi lo = z := hz.symm
  have ht : Takes .frameClose s p [hi, lo] := takes_ops hr rfl hrole rfl
  have write : ∀ _ : u16 hi lo ≤ 1439, ∀ _ : s.day ≠ .opened,
      ∀ _ : ¬ (s.day = .half ∧ s.closeMinute = none ∧ s.openMinute ≠ none),
      Row.frameClose.body p [hi, lo] s =
        if !s.clockSet then reject .clockUnset else if s.day = .ended then reject .frameState
        else accept (writeClose (u16 hi lo) s) [] :=
    fun hz hd h => frameCloseBody_write (p := p) hz hd (otherMinute_none h)
  refine ⟨fun hz => ht.refuses (if_pos hz), fun hz hopen => ⟨fun hn hc => ht.refuses ?_, fun hc hd => ht.refuses ?_,
    fun hc hd => ht.grants ?_ ?_, fun hc hd hz' => ht.grants ?_ ?_, fun hc hd => ht.reopens ?_, fun o hd hz' ho =>
    ht.confirmation (frameCloseBody_confirm (p := p) hz (otherMinute_some hd hz' ho))⟩⟩
  · simp [write hz hopen hn, hc]
  · simp [write hz hopen (by simp [hd]), hc, hd]
  · rw [write hz hopen (by simp [hd]), writeClose_unset _ hd]
    simp [hc, hd, raiseAll]
  · have hw : Settled { s with closeMinute := some (u16 hi lo), day := .half } := hs.same rfl rfl rfl
    exact hw.raiseAll (k := .frame) rfl
  · rw [write hz hopen (by simp [hz']), writeClose_half _ hd]
    simp [hc, hd]
  · exact hs.same rfl rfl rfl
  · rw [write hz hopen (by simp [hd]), writeClose_armed _ hd]
    simp [hc, hd]

/-- Settles O30: the checks in their order, the present Z, and the lists lengthened or cut. -/
theorem moveClose : Obligations.MoveClose := by
  intro s p hi lo o z new hs hr hrole hnew hle hd ho hz
  obtain rfl : u16 hi lo = new := hnew.symm
  have hso : s.o = o := by simp [State.o, ho]
  have hsz : s.z = z := by simp [State.z, hz]
  have ht : Takes .frameClose s p [hi, lo] := takes_ops hr rfl hrole rfl
  have hbody : Row.frameClose.body p [hi, lo] s = _ := frameCloseBody_move (p := p) hle hd
  rw [hso, hsz] at hbody
  refine ⟨fun hn => ht.refuses ?_, fun h1 h2 => ?_⟩
  · have : moveAllowed o (u16 hi lo) s.now = false := by
      rw [Bool.eq_false_iff, ne_eq, moveAllowed_iff]
      omega
    simp [hbody, this]
  rw [(moveAllowed_iff _ _ _).mpr ⟨h1, h2⟩] at hbody
  have hcut : s.attractions.toList.any (cutInUse o (u16 hi lo)) = true ↔ _ :=
    (any_attractions s _).trans (exists_congr fun a => cutInUse_iff ..)
  refine ⟨fun hc => ht.refuses ?_, fun hc he => ht.grants ?_ hs, fun hc hlt hin => ht.refuses ?_,
    fun hc hne hout => ht.moves hd ho hz hne ?_⟩
  · simp [hbody, hc]
  · rw [moveClose_same (he.trans hsz.symm), if_neg (c := u16 hi lo < z ∧ _) (by omega)] at hbody
    simp [hbody, hc]
  · simp [hbody, hc, hlt, hcut.mpr hin]
  · have hn : ¬ (u16 hi lo < z ∧ s.attractions.toList.any (cutInUse o (u16 hi lo)) = true) := by
      rintro ⟨hlt, hin⟩
      obtain ⟨a, w, x, hx, hw, hbad⟩ := hcut.mp hin
      obtain ⟨hf, hb⟩ := hout hlt a w x hx hw
      rcases hbad with hbad | hbad
      · exact hbad hf
      · omega
    rw [if_neg hn] at hbody
    simp [hbody, hc]

/-- Settles O31: the refusal in OPEN, the records, and each event where something changed. -/
theorem clearDay : Obligations.ClearDay := by
  intro s p hs hr hrole
  have ht : Takes .clearDay s p [] := takes_ops hr rfl hrole rfl
  have hrun : s.attractions.toList.any (·.running) =
      decide (∃ a, (s.att a).state = .operating ∨ (s.att a).state = .down) := by
    rw [Bool.eq_iff_iff, any_attractions]
    simp [Attraction.running]
  have hday : (s.day != .unset) = decide (s.day ≠ .unset) := by
    rw [Bool.eq_iff_iff]
    simp
  refine ⟨fun hd => ht.refuses (if_pos hd), fun hd => ht.carries (if_neg hd) (clearDay_keepsBut s) (fun q => ?_)
    (fun q k hk => ?_) ⟨clearDay_day s, clearDay_openMinute s, clearDay_closeMinute s, fun a => ?_⟩⟩
  · rw [clearDay_port]
    exact ((Port.OnlyFlags.rfl.raiseIf _ _).raiseIf _ _).raiseIf _ _
  · rw [clearDay_port, hrun, both, windowWhere, hday, has_raiseIf, has_raiseIf, has_raiseIf]
    ac_rfl
  · rw [withReply_att, settle_att, clearDay_att, clearRecord_eq]
    constructor <;> intro h
    · simp [h]
    · rcases h with h | h <;> simp [h]

end Sys2Proof.Proofs
end

section
/-! PROOFS. The two resets (R174, R175). -/

namespace Sys2Proof.Machine

/-! ## POWER_ON -/

/-- The role two strap levels fix, by their table (R159). -/
theorem role_eq (t : Strap) :
    Strap.role t = if t.pr1 then (if t.pr0 then .ops else .ride) else (if t.pr0 then .issue else .view) := by
  obtain ⟨pr1, pr0⟩ := t
  cases pr1 <;> cases pr0 <;> rfl

theorem powerOn_att (straps : Straps) (a : AttrNo) : (State.powerOn straps).att a = .unused := by
  simp [State.att, State.powerOn]

theorem powerOn_port (straps : Straps) (p : PortNo) :
    (State.powerOn straps).port p = .fresh (Strap.role straps[p]) (Vector.replicate _ false) := by
  simp [State.port, State.powerOn]

/-! ## LINE_RESET -/

theorem lineReset_port (straps : Straps) (s : State) (p : PortNo) :
    (lineReset straps s).port p = resetPort s straps p := by
  simp [State.port, lineReset]

theorem disarm_eq (x : Line) :
    disarm x = match x with
      | .unbound => .unbound
      | .unarmed b _ _ => .unarmed b 0 false
      | .armed b _ _ => .unarmed b 0 false := by
  cases x <;> rfl

/-- A settled part's postings stay at a line reset, which moves no source of theirs. -/
theorem settle_lineReset_postings (straps : Straps) {s : State} (h : Settled s) :
    (settle (lineReset straps s)).postings = s.postings := by
  ext1 i hi
  exact (settle_postings (lineReset straps s) ⟨i, hi⟩).trans (h.postings ⟨i, hi⟩).symm

/-- After a line reset a port's change set holds the attractions in use (R137). -/
theorem settle_lineReset_changed (straps : Straps) {s : State} (h : Settled s) (p : PortNo) (a : AttrNo) :
    ((settle (lineReset straps s)).port p).changed[a] = decide ((s.att a).state ≠ .unused) := by
  have hp : (lineReset straps s).postings[a] = postingOf ((lineReset straps s).att a) := h.postings a
  have hc : (resetPort s straps p).changed[a] = (s.att a).inUse := by simp [resetPort, Port.fresh, State.att]
  rw [settle_port_changed, hp, lineReset_port, hc]
  rw [Bool.eq_iff_iff]
  simp [Attraction.inUse]

/-- After a line reset the valid entries are dirty (R156). -/
theorem settle_lineReset_dirty (straps : Straps) {s : State} (h : Settled s) (e : EntryNo) :
    (settle (lineReset straps s)).dirty[e] = s.entries[e].binding.isSome := by
  have hd : (lineReset straps s).dirty[e] = s.entries[e].binding.isSome := by simp [lineReset]
  have hp : ∀ a : AttrNo, (lineReset straps s).postings[a] = postingOf ((lineReset straps s).att a) := h.postings
  rw [settle_dirty, hd]
  cases (lineReset straps s).entries[e].binding with
  | none => simp
  | some b => simp [hp]

/-- No edge-type flag is set after a line reset; the level-type ones stand as their conditions do (R182). -/
theorem settle_lineReset_has (straps : Straps) {s : State} (h : Settled s) (p : PortNo) (k : EventKind) :
    ((settle (lineReset straps s)).port p).has k = true ↔
      (k = .aged ∧ ∃ a, (s.att a).state = .operating ∧ (s.att a).aged = true) ∨
        (k = .posting ∧ ∃ a, (s.att a).state ≠ .unused) := by
  have hsettled := settled_settle (lineReset straps s)
  by_cases hk : k.edge = true
  · rw [settle_has_edge _ p k hk, lineReset_port]
    have h0 : (resetPort s straps p).has k = false := inMask_zero k
    rw [h0]
    cases k <;> simp [EventKind.edge] at hk ⊢
  · cases k <;> simp [EventKind.edge] at hk
    · rw [hsettled.stale p]
      simp [staleAt, lineReset_port, resetPort, Port.fresh]
    · rw [hsettled.aged p, anyAged_iff]
      simp only [true_and, reduceCtorEq, false_and, or_false]
      rfl
    · rw [hsettled.posting p, nonEmpty_iff]
      simp only [settle_lineReset_changed straps h, decide_eq_true_eq, true_and, reduceCtorEq, false_and, false_or]

end Sys2Proof.Machine

namespace Sys2Proof.Proofs

open Sys2Proof.Machine

/-- Settles O3: each piece of state is written out by the model's power-on value. -/
theorem powerOn : Obligations.PowerOn := by
  intro straps s
  refine ⟨_, rfl, ⟨rfl, rfl, rfl⟩, ⟨rfl, rfl, rfl⟩, fun a => ?_, fun i => ?_, ?_, fun a => ?_, fun l => ?_, fun e => ?_,
    ⟨rfl, rfl⟩, fun p => ?_, rfl, rfl⟩
  · have h := powerOn_att straps a
    simp only [State.att] at h ⊢
    simp [h, Attraction.unused]
  · simp [State.powerOn]
  · simp [State.powerOn]
  · simp [State.powerOn]
  · simp [State.powerOn]
  · simp [State.powerOn]
  · have h := powerOn_port straps p
    simp only [State.port] at h ⊢
    simp [h, Port.fresh, role_eq]

/-- Settles O4: what is kept by `lineReset`'s definition, and what settling then does to flags, change sets and dirty set. -/
theorem lineReset : Obligations.LineReset := by
  intro straps s hs
  refine ⟨_, rfl, fun x hx => ?_, ⟨rfl, rfl, rfl⟩, fun l => ?_, settle_lineReset_dirty straps hs, ⟨rfl, rfl, fun _ => rfl⟩,
    fun p => ?_⟩
  · cases x with
    | postings => exact settle_lineReset_postings straps hs
    | frame => exact ⟨rfl, rfl, rfl⟩
    | passes => exact ⟨rfl, rfl⟩
    | attractions | entries | choice | pending => rfl
    | clock | lines | dirty | refresh | board | ports => simp at hx
  · have hl : (Machine.lineReset straps s).lines[l] = disarm s.lines[l] := by simp [Machine.lineReset]
    exact hl.trans (disarm_eq _)
  · have hperiod : ((settle (Machine.lineReset straps s)).port p).period = none := by
      rw [settle_port_period, lineReset_port]
      rfl
    refine ⟨?_, ?_, hperiod, pdo_released hperiod, ?_, ?_, ?_, settle_lineReset_changed straps hs p,
      settle_lineReset_has straps hs p⟩
    · rw [settle_port_role, lineReset_port, ← role_eq]
      rfl
    · rw [settle_port_link, lineReset_port]
      rfl
    · rw [settle_port_shadow, lineReset_port]
      rfl
    · rw [settle_port_enable, lineReset_port]
      rfl
    · rw [settle_port_level, lineReset_port]
      rfl

end Sys2Proof.Proofs
end

section
/-! PROOFS. What the works of a minute tick do to the clock, the frame, the ports and the records, and the second tick that
holds them (R1, R2, R5). -/

namespace Sys2Proof.Machine

/-! ## The works one after another -/

/-- One work of a minute tick as an event: the work, settled (R2; log 19). -/
def tickEvent (m : Nat) (s : State) (w : TickWork) : State := settle (tickWork m w s)

/-- The works of one minute tick in the order that the choice gives them (log 5). -/
def tickOrder (s : State) : List TickWork := orderBy (fun w => Config.tickRank s.choice w.number) tickWorks

theorem minuteWork_eq (m : Nat) (s : State) :
    minuteWork m s = (tickOrder s).foldl (tickEvent m) { s with choice := s.choice + 1 } := rfl

theorem tickOrder_perm (s : State) : (tickOrder s).Perm tickWorks := orderBy_perm ..

/-! ## The Estimator's work -/

/-- The Estimator leaves all that the Book and the offer's other terms rest on (R64). -/
structure SameTerms (r x : Attraction) : Prop where
  state : x.state = r.state
  desc : x.desc = r.desc
  windows : x.windows = r.windows
  offer : x.offer = r.offer

theorem estimate_sameTerms (o now : Nat) (r : Attraction) : SameTerms r (estimate o now r) := by
  unfold estimate
  split
  · split
    · exact ⟨rfl, rfl, rfl, rfl⟩
    · split <;> exact ⟨rfl, rfl, rfl, rfl⟩
  all_goals exact ⟨rfl, rfl, rfl, rfl⟩

@[simp] theorem estimatorWork_ports (m : Nat) (a : AttrNo) (s : State) : (estimatorWork m a s).ports = s.ports := by
  unfold estimatorWork
  simp only []
  split <;> rfl

/-! ## The pass table -/

/-- Whether a slot is in use with a record that meets a test. -/
def Slot.holds (hit : Pass → Bool) (x : Slot) : Bool :=
  match x.pass with
  | some r => hit r
  | none => false

theorem holds_iff (hit : Pass → Bool) (x : Slot) : x.holds hit = true ↔ ∃ r, x.pass = some r ∧ hit r = true := by
  unfold Slot.holds
  cases x.pass <;> simp

/-- The numbers of the slots that meet a test, picked out of the numbered slots. -/
def pickSlot (hit : Pass → Bool) {n : Nat} (x : Slot × Fin n) : Option (Fin n) :=
  match x.1.pass with
  | some r => if hit r then some x.2 else none
  | none => none

theorem pickSlot_eq (hit : Pass → Bool) {n : Nat} (x : Slot) (i : Fin n) :
    pickSlot hit (x, i) = if x.holds hit then some i else none := by
  obtain ⟨g, pass⟩ := x
  cases pass <;> rfl

theorem filterMap_pickSlot {n : Nat} (v : Vector Slot n) (hit : Pass → Bool) :
    (v.toList.zip (List.finRange n)).filterMap (pickSlot hit) = (List.finRange n).filter fun i => v[i].holds hit := by
  have hz : v.toList.zip (List.finRange n) = (List.finRange n).map fun i => (v[i], i) := by
    apply List.ext_getElem <;> simp
  rw [hz, List.filterMap_map, ← List.filterMap_eq_filter]
  refine List.filterMap_congr fun i _ => (pickSlot_eq hit v[i] i).trans ?_
  simp [Option.guard]

/-- The slots that meet a test stand in ascending slot number (R114). -/
theorem slotsWhere_eq (s : State) (hit : Pass → Bool) :
    s.slotsWhere hit = (List.finRange Config.slots).filter fun i => s.slots[i].holds hit :=
  filterMap_pickSlot s.slots hit

/-- Freeing for one test and then another frees for either. -/
theorem freeIf_freeIf (f g : Pass → Bool) (x : Slot) : (x.freeIf f).freeIf g = x.freeIf fun r => f r || g r := by
  obtain ⟨n, pass⟩ := x
  cases pass with
  | none => rfl
  | some r => cases hf : f r <;> cases hg : g r <;> simp [Slot.freeIf, hf, hg]

theorem freeIf_eq_self {hit : Pass → Bool} {x : Slot} (h : x.holds hit = false) : x.freeIf hit = x := by
  obtain ⟨n, pass⟩ := x
  cases pass with
  | none => rfl
  | some r => simp [Slot.freeIf, show hit r = false from h]

/-- A slot freed for one test no longer meets it, and meets another test as it did where the two exclude each other. -/
theorem holds_freeIf {f g : Pass → Bool} (h : ∀ r, f r = true → g r = false) (x : Slot) :
    (x.freeIf f).holds g = x.holds g := by
  obtain ⟨n, pass⟩ := x
  cases pass with
  | none => rfl
  | some r => cases hf : f r <;> simp [Slot.freeIf, Slot.holds, hf, h]

/-- The state after the passes of one test after another are freed. -/
def State.freeEach (s : State) (hit : Nat → Pass → Bool) (ws : List Nat) : State :=
  ws.foldl (fun s w => s.freeWhere (hit w)) s

theorem freeEach_cons (s : State) (hit : Nat → Pass → Bool) (w : Nat) (ws : List Nat) :
    s.freeEach hit (w :: ws) = (s.freeWhere (hit w)).freeEach hit ws := rfl

@[simp] theorem freeEach_ports (s : State) (hit : Nat → Pass → Bool) (ws : List Nat) :
    (s.freeEach hit ws).ports = s.ports := by
  induction ws generalizing s with
  | nil => rfl
  | cons w ws ih => exact ih _

@[simp] theorem freeEach_attractions (s : State) (hit : Nat → Pass → Bool) (ws : List Nat) :
    (s.freeEach hit ws).attractions = s.attractions := by
  induction ws generalizing s with
  | nil => rfl
  | cons w ws ih => exact ih _

theorem freeEach_slot (s : State) (hit : Nat → Pass → Bool) (ws : List Nat) (i : SlotNo) :
    (s.freeEach hit ws).slots[i] = s.slots[i].freeIf fun r => ws.any (hit · r) := by
  induction ws generalizing s with
  | nil => exact (freeIf_eq_self (by unfold Slot.holds; split <;> rfl)).symm
  | cons w ws ih => rw [freeEach_cons, ih, freeWhere_slot, freeIf_freeIf]; rfl

/-- The slots freed join the queue test by test, and for each in ascending slot number (R114, R128). -/
theorem freeEach_freeQueue {hit : Nat → Pass → Bool} (hdis : ∀ v w r, v ≠ w → hit v r = true → hit w r = false)
    {ws : List Nat} (hn : ws.Nodup) (s : State) :
    (s.freeEach hit ws).freeQueue = s.freeQueue ++ ws.flatMap fun w => s.slotsWhere (hit w) := by
  induction ws generalizing s with
  | nil => simp [State.freeEach]
  | cons w ws ih =>
    obtain ⟨hw, hn⟩ := List.nodup_cons.mp hn
    have hrest : ws.flatMap (fun v => (s.freeWhere (hit w)).slotsWhere (hit v)) =
        ws.flatMap fun v => s.slotsWhere (hit v) := by
      refine List.flatMap_congr fun v hv => ?_
      have hne : w ≠ v := fun e => hw (e ▸ hv)
      simp only [slotsWhere_eq, freeWhere_slot, holds_freeIf fun r => hdis w v r hne]
    rw [freeEach_cons, ih hn, hrest, List.flatMap_cons, ← List.append_assoc]
    rfl

/-! ## The Book's work -/

/-- A window list after the Book's work at minute m (R95 to R98). -/
def tickedList (m o z : Nat) (r : Attraction) (xs : List Window) : List Window :=
  xs.mapIdx (tickWindow m o z r.desc (r.state = .down))

/-- The windows of a list that retire at minute m (R97). -/
def retiringIn (m o : Nat) (xs : List Window) : List Nat :=
  (List.range xs.length).filter fun w => (xs[w]?.map (retired m o)).getD false

theorem mem_retiringIn (m o : Nat) (xs : List Window) (w : Nat) :
    w ∈ retiringIn m o xs ↔ ∃ x, xs[w]? = some x ∧ retired m o x = true := by
  simp only [retiringIn, List.mem_filter, List.mem_range]
  cases hx : xs[w]? with
  | none => simp
  | some x => simpa using fun _ => (List.getElem?_eq_some_iff.mp hx).1

theorem nodup_retiringIn (m o : Nat) (xs : List Window) : (retiringIn m o xs).Nodup := List.nodup_range.filter _

/-- A slot after the Book's work for one attraction: an ISSUED pass of a window that closes is EXPIRED, and the slot of a
pass of one that retires is freed (R126, R128). -/
def Slot.ticked (m o z : Nat) (a : AttrNo) (r : Attraction) (xs : List Window) (x : Slot) : Slot :=
  (x.retagIf (fun p => p.attraction = a && closedBetween xs (tickedList m o z r xs) p.window) .expired).freeIf
    fun p => (retiringIn m o xs).any fun w => p.names a w

/-- The Book's move of one attraction's windows, before WINDOW is raised (R95 to R98, R126, R128). -/
def movedBook (m o z : Nat) (a : AttrNo) (xs : List Window) (s : State) : State :=
  ((s.updAtt a fun r => { r with windows := some (tickedList m o z (s.att a) xs) }).retag
    (fun p => p.attraction = a && closedBetween xs (tickedList m o z (s.att a) xs) p.window) .expired).freeEach
      (Pass.names a) (retiringIn m o xs)

theorem moveWindows_eq (m o z : Nat) (a : AttrNo) (xs : List Window) (s : State) :
    moveWindows m o z a xs s =
      if statesDiffer xs (tickedList m o z (s.att a) xs) then raiseWindow (· = a) (movedBook m o z a xs s)
      else movedBook m o z a xs s := rfl

theorem moveWindows_att (m o z : Nat) (a b : AttrNo) (xs : List Window) (s : State) :
    (moveWindows m o z a xs s).att b =
      if b = a then { s.att a with windows := some (tickedList m o z (s.att a) xs) } else s.att b := by
  have h : (moveWindows m o z a xs s).attractions = (movedBook m o z a xs s).attractions := by
    rw [moveWindows_eq]
    split <;> rfl
  rw [att_congr h, movedBook, att_congr (freeEach_attractions ..), att_retag, att_updAtt]

theorem moveWindows_port (m o z : Nat) (a : AttrNo) (xs : List Window) (s : State) (q : PortNo) :
    (moveWindows m o z a xs s).port q =
      (s.port q).raiseIf .window (statesDiffer xs (tickedList m o z (s.att a) xs) && s.watches q a) := by
  have h : (movedBook m o z a xs s).port q = s.port q := port_congr (freeEach_ports ..) q
  rw [moveWindows_eq]
  cases statesDiffer xs (tickedList m o z (s.att a) xs)
  · exact h
  · rw [if_pos rfl, raiseWindow_port, h, Bool.true_and]
    rfl

theorem moveWindows_slot (m o z : Nat) (a : AttrNo) (xs : List Window) (s : State) (i : SlotNo) :
    (moveWindows m o z a xs s).slots[i] = s.slots[i].ticked m o z a (s.att a) xs := by
  have h : (moveWindows m o z a xs s).slots = (movedBook m o z a xs s).slots := by
    rw [moveWindows_eq]
    split <;> rfl
  simp only [h]
  exact (freeEach_slot ..).trans (by rw [retag_slot]; rfl)

/-- Taking a pass to another state changes neither its attraction nor its window. -/
theorem holds_names_retagIf (a : AttrNo) (w : Nat) (hit : Pass → Bool) (st : PassState) (x : Slot) :
    (x.retagIf hit st).holds (Pass.names a w) = x.holds (Pass.names a w) := by
  obtain ⟨n, pass⟩ := x
  cases pass with
  | none => rfl
  | some r =>
    simp only [Slot.retagIf]
    split <;> rfl

theorem moveWindows_freeQueue (m o z : Nat) (a : AttrNo) (xs : List Window) (s : State) :
    (moveWindows m o z a xs s).freeQueue =
      s.freeQueue ++ (retiringIn m o xs).flatMap fun w => s.slotsWhere (Pass.names a w) := by
  have hdis : ∀ v w (r : Pass), v ≠ w → r.names a v = true → r.names a w = false := by
    intro v w r hvw hv
    simp only [Pass.names, Bool.and_eq_true, decide_eq_true_eq] at hv
    simp [Pass.names, hv.2, hvw]
  have h : (moveWindows m o z a xs s).freeQueue = (movedBook m o z a xs s).freeQueue := by
    rw [moveWindows_eq]
    split <;> rfl
  rw [h, movedBook, freeEach_freeQueue hdis (nodup_retiringIn ..)]
  simp only [slotsWhere_eq, retag_slot, holds_names_retagIf]
  rfl

/-- Where the Book's work does nothing: outside ARMED and OPEN, outside O..Z - 1, and for an attraction without a list
(R17, R94). -/
theorem bookWork_idle {m : Nat} {a : AttrNo} {s : State}
    (h : (s.att a).windows = none ∨ (s.day ≠ .armed ∧ s.day ≠ .opened) ∨ m < s.o ∨ s.z ≤ m) : bookWork m a s = s := by
  unfold bookWork
  split
  · next o z xs ho hz hw =>
    rw [if_neg]
    simp only [State.o, State.z, ho, hz, hw, Option.getD_some, reduceCtorEq, false_or] at h
    simp only [Bool.and_eq_true, Bool.or_eq_true, decide_eq_true_eq]
    rintro ⟨⟨hd, ho⟩, hz⟩
    rcases h with ⟨h1, h2⟩ | h | h
    · exact hd.elim h1 h2
    · omega
    · omega
  · rfl

/-- The Book's work within O..Z - 1 of an ARMED or OPEN frame (R94). -/
theorem bookWork_moves {m o z : Nat} {a : AttrNo} {xs : List Window} {s : State} (ho : s.openMinute = some o)
    (hz : s.closeMinute = some z) (hw : (s.att a).windows = some xs) (hd : s.day = .armed ∨ s.day = .opened) (hom : o ≤ m)
    (hmz : m < z) : bookWork m a s = recomputeOffer a (moveWindows m o z a xs s) := by
  simp [bookWork, ho, hz, hw, hd, hom, hmz]

/-- The Book's work moves windows and recomputes the offer, or does nothing. -/
theorem bookWork_cases (m : Nat) (a : AttrNo) (s : State) :
    bookWork m a s = s ∨ ∃ o z xs, bookWork m a s = recomputeOffer a (moveWindows m o z a xs s) := by
  unfold bookWork
  split
  · split
    · exact .inr ⟨_, _, _, rfl⟩
    · exact .inl rfl
  · exact .inl rfl

/-- The Book's work raises no event but WINDOW (R102), and touches no other field of a port. -/
theorem bookWork_port (m : Nat) (a : AttrNo) (s : State) (q : PortNo) :
    ∃ b, (bookWork m a s).port q = (s.port q).raiseIf .window b := by
  obtain h | ⟨o, z, xs, h⟩ := bookWork_cases m a s
  · exact ⟨false, by rw [h]; rfl⟩
  · exact ⟨_, by rw [h, recomputeOffer_port, moveWindows_port]⟩

/-! ## The frame's work -/

theorem openFrameDay_att (s : State) (a : AttrNo) :
    (openFrameDay s).att a = { s.att a with offer := offerNow (openFrameDay s) (s.att a) } := by
  simp only [openFrameDay, recomputeOffers_att]
  rfl

/-- No offer stands outside OPEN (R108). -/
theorem offerNow_closed {s : State} (h : s.day ≠ .opened) (r : Attraction) : offerNow s r = none := by
  simp [offerNow, h]

/-- At the frame's entry into ENDED every window is SPENT and no offer stands (R13, R101, R108). -/
theorem endFrame_att (m : Nat) (s : State) (a : AttrNo) :
    (endFrame m s).att a = { s.att a with windows := (s.att a).windows.map (List.map (endWindow m)), offer := none } := by
  rw [endFrame, recomputeOffers_att, offerNow_closed (by simp)]
  simp only [att_freeWhere, raiseWindow_att, att_mapAtts]
  rfl

theorem endFrame_slot (m : Nat) (s : State) (i : SlotNo) : (endFrame m s).slots[i] = { s.slots[i] with pass := none } := by
  have h : (endFrame m s).slots[i] = s.slots[i].freeIf fun _ => true := freeWhere_slot ..
  rw [h]
  obtain ⟨n, pass⟩ := s.slots[i]
  cases pass <;> rfl

theorem endFrame_freeQueue (m : Nat) (s : State) :
    (endFrame m s).freeQueue =
      s.freeQueue ++ (List.finRange Config.slots).filter fun i => s.slots[i].pass.isSome := by
  have h : (endFrame m s).freeQueue = s.freeQueue ++ s.slotsWhere fun _ => true := rfl
  have hs : ∀ x : Slot, x.holds (fun _ => true) = x.pass.isSome := fun x => by
    unfold Slot.holds
    cases x.pass <;> rfl
  simp only [h, slotsWhere_eq, hs]

theorem endFrame_port (m : Nat) (s : State) (q : PortNo) :
    (endFrame m s).port q =
      (s.port q).raiseIf .window ((s.port q).namesSome fun a => (s.att a).list.any fun x => x.state != .spent) := by
  simp only [endFrame, recomputeOffers_port, port_freeWhere, raiseWindow_port, port_mapAtts]
  rfl

end Sys2Proof.Machine
end

section
/-! PROOFS. The second tick: the clock's part, and what the works of a minute tick leave of the clock (R1, R2, R5). -/

namespace Sys2Proof.Machine

/-! ## The clock through the works -/

/-- The clock, its flag, the pending value and every CLOCK flag are the same in two states. -/
structure SameClock (s t : State) : Prop where
  clock : t.clock = s.clock
  clockSet : t.clockSet = s.clockSet
  waiting : t.pendingClock = s.pendingClock
  flag : ∀ q, (t.port q).has .clock = (s.port q).has .clock

theorem SameClock.trans {s t u : State} (h : SameClock s t) (k : SameClock t u) : SameClock s u :=
  ⟨k.clock.trans h.clock, k.clockSet.trans h.clockSet, k.waiting.trans h.waiting, fun q => (k.flag q).trans (h.flag q)⟩

theorem settle_sameClock (s : State) : SameClock s (settle s) :=
  ⟨rfl, rfl, rfl, fun q => settle_has_edge s q .clock rfl⟩

theorem tickWork_sameClock (m : Nat) (w : TickWork) (s : State) : SameClock s (tickWork m w s) := by
  cases w with
  | frame =>
    obtain ⟨h, -⟩ | ⟨h, -⟩ | ⟨h, -⟩ := frameWork_cases m s <;> rw [tickWork, h]
    · exact ⟨rfl, rfl, rfl, fun _ => rfl⟩
    · exact ⟨rfl, rfl, rfl, fun q => by simp⟩
    · exact ⟨rfl, rfl, rfl, fun q => by simp [endFrame_port]⟩
  | estimator a =>
    have h := estimatorWork_sameDay m a s
    exact ⟨h.clock, h.clockSet, h.waiting, fun q => by rw [tickWork, port_congr (estimatorWork_ports ..)]⟩
  | book a =>
    have h := bookWork_sameDay m a s
    obtain hp := bookWork_port m a s
    refine ⟨h.clock, h.clockSet, h.waiting, fun q => ?_⟩
    obtain ⟨b, hb⟩ := bookWork_port m a s q
    simp [tickWork, hb]

theorem minuteWork_sameClock (m : Nat) (s : State) : SameClock s (minuteWork m s) :=
  foldl_keeps (P := SameClock s) (fun _ w h => (h.trans (tickWork_sameClock m w _)).trans (settle_sameClock _)) _ _
    ⟨rfl, rfl, rfl, fun _ => rfl⟩

theorem secondTick_sameClock (s : State) : SameClock (clockTick s) (secondTick s) := by
  unfold secondTick
  split
  · exact (minuteWork_sameClock ..).trans (settle_sameClock _)
  · exact settle_sameClock _

/-! ## Advance and load -/

/-- The pending value that the limits of OPEN and ENDED refuse is dropped; any other is loaded (R5). -/
theorem loads_pending {s : State} {v : Time} (h : s.pendingClock = some v) :
    s.loads = if (s.day = .opened ∨ s.day = .ended) ∧ (v.second < s.clock.second ∨ s.clock.second + 3600 < v.second)
      then none else some v := by
  have hstep : stepAllowed s.clock v = true ↔ ¬ (v.second < s.clock.second ∨ s.clock.second + 3600 < v.second) := by
    simp only [stepAllowed, Bool.and_eq_true, decide_eq_true_eq]
    simp only [Config.largestStep]
    omega
  simp only [State.loads, h, Bool.and_eq_true, Bool.not_eq_true', started_iff, ← Bool.not_eq_true, hstep, not_not]

theorem clockTick_advance {s : State} (h : s.loads = none) :
    clockTick s = { s with clock := s.clock.advance, pendingClock := none } := by
  simp [clockTick, h, State.nextReading]

theorem clockTick_load {s : State} {v : Time} (h : s.loads = some v) :
    clockTick s = raiseAll .clock { s with clock := v, pendingClock := none, clockSet := true } := by
  simp [clockTick, h, State.nextReading]

/-- The clock's part of a tick touches the clock and the flags of the ports, and nothing else (R5). -/
theorem clockTick_quiet (s : State) : KeepsBut [.clock, .ports] s (clockTick s) ∧ PortsQuiet s (clockTick s) := by
  cases hl : s.loads with
  | none =>
    rw [clockTick_advance hl]
    refine ⟨fun x hx => ?_, fun q => ⟨rfl, .rfl⟩⟩
    cases x with
    | clock | ports => simp at hx
    | frame => exact ⟨rfl, rfl, rfl⟩
    | passes => exact ⟨rfl, rfl⟩
    | attractions | postings | lines | entries | dirty | refresh | board | choice | pending => rfl
  | some v =>
    rw [clockTick_load hl]
    refine ⟨fun x hx => ?_, fun q => ?_⟩
    · cases x with
      | clock | ports => simp at hx
      | frame => exact ⟨rfl, rfl, rfl⟩
      | passes => exact ⟨rfl, rfl⟩
      | attractions | postings | lines | entries | dirty | refresh | board | choice | pending => rfl
    · rw [raiseAll_port]
      exact ⟨rfl, (Port.onlyFlags_raise _ _).like⟩

/-- A tick at which the minute stays is the clock's part alone, in a settled part (R2, R6). -/
theorem secondTick_within {s : State} (h : Settled s) (hm : s.minuteDue = false) : secondTick s = clockTick s := by
  have hs : Settled (clockTick s) := by
    cases hl : s.loads with
    | none =>
      rw [clockTick_advance hl]
      exact h.same rfl rfl rfl
    | some v =>
      rw [clockTick_load hl]
      have hc : Settled { s with clock := v, pendingClock := none, clockSet := true } := h.same rfl rfl rfl
      exact hc.raiseAll rfl
  rw [secondTick, if_neg (by simp [hm]), settle_of_settled hs]

theorem minuteDue_iff (s : State) : s.minuteDue = true ↔ s.nextReading.minute ≠ s.clock.minute := by
  simp [State.minuteDue]

theorem secondTick_clock (s : State) : (secondTick s).clock = s.nextReading := by
  rw [(secondTick_sameClock s).clock, clockTick_clock]

end Sys2Proof.Machine

namespace Sys2Proof.Proofs

open Sys2Proof.Machine

/-- Settles O5: the clock's part of the tick is an advance or a load, which the works of a minute leave as it is, and it is
the whole tick where the minute stays. -/
theorem secondTick : Obligations.SecondTick := by
  refine ⟨fun s hs _ hp => ⟨_, rfl, ?_⟩, fun s v hs hp => ⟨_, rfl, ?_⟩⟩
  · have hl : s.loads = none := by simp [State.loads, hp]
    have hn : s.nextReading = s.clock.advance := by simp [State.nextReading, hl]
    have hc := secondTick_sameClock s
    rw [clockTick_advance hl] at hc
    refine ⟨hc.clock, hc.clockSet, hc.waiting, hc.flag, fun h59 => ?_⟩
    have ha : s.clock.advance = ⟨s.clock.hours, s.clock.minutes, s.clock.seconds + 1⟩ := if_pos h59
    have hm : s.minuteDue = false := by
      rw [Bool.eq_false_iff, ne_eq, minuteDue_iff, hn, ha, not_not]
      rfl
    rw [secondTick_within hs hm, clockTick_advance hl, ha, ← hp]
  · have hc := secondTick_sameClock s
    have within : (Machine.secondTick s).clock.minute = s.clock.minute → Machine.secondTick s = clockTick s := fun h =>
      secondTick_within hs (by rwa [Bool.eq_false_iff, ne_eq, minuteDue_iff, not_not, ← secondTick_clock])
    have hl := loads_pending hp
    refine ⟨hc.waiting.trans (clockTick_pendingClock s), fun h => within h ▸ clockTick_quiet s, fun hdrop => ?_,
      fun hload => ?_⟩
    · rw [if_pos hdrop] at hl
      rw [clockTick_advance hl] at hc within
      exact ⟨hc.clock, hc.clockSet, hc.flag, within⟩
    · rw [if_neg hload] at hl
      rw [clockTick_load hl] at hc within
      exact ⟨hc.clock, hc.clockSet, fun q => (hc.flag q).trans (by simp), within⟩

end Sys2Proof.Proofs
end

section
/-! PROOFS. The frame at a minute tick: the one work that moves it, among works that leave it alone (R10, R13, R16, R101). -/

namespace Sys2Proof.Machine

/-! ## Around the frame's work -/

theorem nodup_tickWorks : tickWorks.Nodup := by
  have he : ((List.finRange Config.attractions).map TickWork.estimator).Nodup :=
    (List.nodup_finRange _).map fun _ _ h => by cases h; rfl
  have hb : ((List.finRange Config.attractions).map TickWork.book).Nodup :=
    (List.nodup_finRange _).map fun _ _ h => by cases h; rfl
  refine List.nodup_cons.mpr ⟨by simp, List.nodup_append.mpr ⟨he, hb, ?_⟩⟩
  simp

/-- The frame's work stands in the order once. -/
theorem tickOrder_split (s : State) :
    ∃ before behind, tickOrder s = before ++ .frame :: behind ∧ .frame ∉ before ∧ .frame ∉ behind := by
  have hmem : .frame ∈ tickOrder s := (tickOrder_perm s).mem_iff.mpr (by simp [tickWorks])
  have hn : (tickOrder s).Nodup := (tickOrder_perm s).nodup_iff.mpr nodup_tickWorks
  obtain ⟨before, behind, h⟩ := List.append_of_mem hmem
  rw [h] at hn
  obtain ⟨-, hbehind, hdis⟩ := List.nodup_append.mp hn
  exact ⟨before, behind, h, fun hb => hdis _ hb _ (by simp) rfl, (List.nodup_cons.mp hbehind).1⟩

/-- What a relation of states needs in order to hold through a minute tick but for the frame's work. -/
structure SideQuiet (m : Nat) (P : State → State → Prop) : Prop where
  trans : ∀ {s t u}, P s t → P t u → P s u
  choice : ∀ s n, P s { s with choice := n }
  clock : ∀ s, P s (clockTick s)
  settle : ∀ s, P s (settle s)
  estimator : ∀ a s, P s (estimatorWork m a s)
  book : ∀ a s, P s (bookWork m a s)

theorem SideQuiet.events {m : Nat} {P : State → State → Prop} (h : SideQuiet m P) {works : List TickWork}
    (hw : .frame ∉ works) (s : State) : P s (works.foldl (tickEvent m) s) := by
  induction works generalizing s with
  | nil => exact h.choice s s.choice
  | cons w works ih =>
    refine h.trans (h.trans ?_ (h.settle _)) (ih (fun hf => hw (List.mem_cons_of_mem _ hf)) _)
    cases w with
    | frame => simp at hw
    | estimator a => exact h.estimator a s
    | book a => exact h.book a s

/-- A minute tick is the frame's work with quiet works before it and behind it. -/
theorem SideQuiet.around {m : Nat} {P : State → State → Prop} (h : SideQuiet m P) {s : State} (hd : s.minuteDue = true)
    (hm : s.nextReading.minute = m) : ∃ u, P s u ∧ P (frameWork m u) (secondTick s) := by
  obtain ⟨before, behind, ho, hb, hb'⟩ := tickOrder_split (clockTick s)
  refine ⟨before.foldl (tickEvent m) { clockTick s with choice := (clockTick s).choice + 1 },
    h.trans (h.trans (h.clock s) (h.choice ..)) (h.events hb _), ?_⟩
  rw [secondTick, if_pos hd, hm, minuteWork_eq, ho, List.foldl_append]
  exact h.trans (h.trans (h.settle _) (h.events hb' _)) (h.settle _)

theorem exec_minuteTick {s : State} (h : s.minuteDue = true) : exec .minuteTick s = .next (secondTick s) :=
  congrArg _ (if_pos h)

/-! ## The frame and its flags -/

/-- The frame state, O, Z and every FRAME flag are the same in two states. -/
def FrameQuiet (s t : State) : Prop := Part.frame.same s t ∧ ∀ q, (t.port q).has .frame = (s.port q).has .frame

theorem SameDay.frame {s t : State} (h : SameDay s t) : Part.frame.same s t := ⟨h.day, h.open_, h.close⟩

theorem clockTick_frame (s : State) : Part.frame.same s (clockTick s) :=
  ⟨clockTick_day s, clockTick_openMinute s, clockTick_closeMinute s⟩

/-- No flag but CLOCK is touched by the clock's part of a tick. -/
theorem clockTick_has (s : State) (q : PortNo) {k : EventKind} (hk : k ≠ .clock) :
    ((clockTick s).port q).has k = (s.port q).has k := by
  cases hl : s.loads with
  | none => rw [clockTick_advance hl]; rfl
  | some v =>
    rw [clockTick_load hl, raiseAll_port, has_raise, decide_eq_false hk, Bool.or_false]
    rfl

theorem frameQuiet_side (m : Nat) : SideQuiet m FrameQuiet where
  trans := fun ⟨⟨hd, ho, hz⟩, hf⟩ ⟨⟨kd, ko, kz⟩, kf⟩ =>
    ⟨⟨kd.trans hd, ko.trans ho, kz.trans hz⟩, fun q => (kf q).trans (hf q)⟩
  choice _ _ := ⟨⟨rfl, rfl, rfl⟩, fun _ => rfl⟩
  clock s := ⟨clockTick_frame s, fun q => clockTick_has s q (by decide)⟩
  settle s := ⟨⟨rfl, rfl, rfl⟩, fun q => settle_has_edge s q .frame rfl⟩
  estimator a s := ⟨(estimatorWork_sameDay m a s).frame, fun q => by rw [port_congr (estimatorWork_ports ..)]⟩
  book a s := ⟨(bookWork_sameDay m a s).frame, fun q => by
    obtain ⟨b, hb⟩ := bookWork_port m a s q
    simp [hb]⟩

/-! ## The book where it does not move -/

/-- The Book's work has nothing to do for minute m (R17, R94). -/
def BookIdle (m : Nat) (s : State) : Prop := (s.day ≠ .armed ∧ s.day ≠ .opened) ∨ m < s.o ∨ s.z ≤ m

/-- The frame, every list, every slot, the free queue, every shadow and every WINDOW flag are the same in two states, and
outside OPEN no offer has come up. -/
structure BookStays (s t : State) : Prop where
  frame : Part.frame.same s t
  windows : ∀ a, (t.att a).windows = (s.att a).windows
  offer : s.day ≠ .opened → ∀ a, (s.att a).offer = none → (t.att a).offer = none
  passes : Part.passes.same s t
  shadow : ∀ q, (t.port q).shadow = (s.port q).shadow
  flag : ∀ q, (t.port q).has .window = (s.port q).has .window

theorem BookStays.rfl {s : State} : BookStays s s :=
  ⟨⟨Eq.refl _, Eq.refl _, Eq.refl _⟩, fun _ => Eq.refl _, fun _ _ h => h, ⟨Eq.refl _, Eq.refl _⟩, fun _ => Eq.refl _,
    fun _ => Eq.refl _⟩

theorem BookStays.trans {s t u : State} (h : BookStays s t) (k : BookStays t u) : BookStays s u := by
  obtain ⟨hd, ho, hz⟩ := h.frame
  obtain ⟨kd, ko, kz⟩ := k.frame
  obtain ⟨hs, hq⟩ := h.passes
  obtain ⟨ks, kq⟩ := k.passes
  exact {
    frame := ⟨kd.trans hd, ko.trans ho, kz.trans hz⟩
    windows := fun a => (k.windows a).trans (h.windows a)
    offer := fun hn a hx => k.offer (hd ▸ hn) a (h.offer hn a hx)
    passes := ⟨ks.trans hs, kq.trans hq⟩
    shadow := fun q => (k.shadow q).trans (h.shadow q)
    flag := fun q => (k.flag q).trans (h.flag q) }

theorem BookStays.idle {m : Nat} {s t : State} (h : BookStays s t) (hi : BookIdle m s) : BookIdle m t := by
  obtain ⟨hd, ho, hz⟩ := h.frame
  unfold BookIdle State.o State.z at *
  rwa [hd, ho, hz]

/-- The Estimator's work leaves lists alone, and gives an offer in OPEN alone (R84, R108). -/
theorem estimatorWork_att (m : Nat) (a b : AttrNo) (s : State) :
    (estimatorWork m a s).att b = s.att b ∨
      b = a ∧ ((estimatorWork m a s).att b = estimate s.o m (s.att a) ∧ (estimate s.o m (s.att a)).posted = (s.att a).posted ∨
        (estimatorWork m a s).att b =
          { estimate s.o m (s.att a) with offer := offerNow s (estimate s.o m (s.att a)) }) := by
  by_cases hb : b = a
  · subst hb
    refine .inr ⟨rfl, ?_⟩
    unfold estimatorWork
    simp only [att_updAtt_self]
    split
    · next h => exact .inl ⟨att_updAtt_self .., h⟩
    · refine .inr ?_
      rw [recomputeOffer_att_self, att_updAtt_self]
      rfl
  · refine .inl ?_
    unfold estimatorWork
    simp only []
    split
    · exact att_updAtt_ne _ _ hb
    · rw [recomputeOffer_att_ne _ hb, att_updAtt_ne _ _ hb]

theorem estimatorWork_passes (m : Nat) (a : AttrNo) (s : State) : Part.passes.same s (estimatorWork m a s) := by
  unfold estimatorWork
  simp only []
  split <;> exact ⟨rfl, rfl⟩

theorem estimatorWork_stays (m : Nat) (a : AttrNo) (s : State) : BookStays s (estimatorWork m a s) where
  frame := (estimatorWork_sameDay m a s).frame
  windows b := by
    have hw := (estimate_sameTerms s.o m (s.att a)).windows
    obtain h | ⟨rfl, ⟨h, -⟩ | h⟩ := estimatorWork_att m a b s <;> rw [h]
    · exact hw
    · exact hw
  offer hd b hn := by
    have ho := (estimate_sameTerms s.o m (s.att a)).offer
    obtain h | ⟨rfl, ⟨h, -⟩ | h⟩ := estimatorWork_att m a b s <;> rw [h]
    · exact hn
    · exact ho.trans hn
    · exact offerNow_closed hd _
  passes := estimatorWork_passes m a s
  shadow q := by rw [port_congr (estimatorWork_ports ..)]
  flag q := by rw [port_congr (estimatorWork_ports ..)]

theorem clockTick_stays (s : State) : BookStays s (clockTick s) := by
  obtain ⟨hk, hp⟩ := clockTick_quiet s
  have ha : ∀ a, (clockTick s).att a = s.att a := att_congr (hk .attractions (by simp))
  exact {
    frame := clockTick_frame s
    windows := fun a => by rw [ha]
    offer := fun _ a h => by rwa [ha]
    passes := hk .passes (by simp)
    shadow := fun q => (hp q).2.shadow
    flag := fun q => clockTick_has s q (by decide) }

theorem bookStays_choice (s : State) (n : Nat) : BookStays s { s with choice := n } :=
  ⟨⟨rfl, rfl, rfl⟩, fun _ => rfl, fun _ _ h => h, ⟨rfl, rfl⟩, fun _ => rfl, fun _ => rfl⟩

theorem settle_stays (s : State) : BookStays s (settle s) :=
  ⟨⟨rfl, rfl, rfl⟩, fun _ => rfl, fun _ _ h => h, ⟨rfl, rfl⟩, settle_port_shadow s, fun q => settle_has_edge s q .window rfl⟩

/-- A window at the frame's end (R101). -/
theorem endWindow_eq (m : Nat) :
    endWindow m = fun x => { x with
      state := .spent
      endedAt := if x.state = .future ∨ x.state = .opened ∨ x.state = .slipped then some m else x.endedAt } := by
  funext x
  simp only [endWindow, Window.live, Bool.or_eq_true, decide_eq_true_eq, or_assoc]
  split <;> rfl

/-- Where the Book's work has nothing to do, only the frame's work touches the book. -/
theorem bookStays_side (m : Nat) : SideQuiet m fun s t => BookIdle m s → BookStays s t where
  trans h k hi := (h hi).trans (k ((h hi).idle hi))
  choice s n _ := bookStays_choice s n
  clock s _ := clockTick_stays s
  settle s _ := settle_stays s
  estimator a s _ := estimatorWork_stays m a s
  book a s hi := by
    rw [bookWork_idle (.inr hi)]
    exact .rfl

end Sys2Proof.Machine

namespace Sys2Proof.Proofs

open Sys2Proof.Machine

/-- Settles O7: the works around the frame's leave the frame and its flags, and the frame's work gives the rest. -/
theorem frameAtMinuteTick : Obligations.FrameAtMinuteTick := by
  intro s hdue
  refine ⟨_, exec_minuteTick hdue, ?_⟩
  obtain ⟨u, ⟨⟨hd, ho, hz⟩, hf⟩, ⟨⟨kd, ko, kz⟩, kf⟩⟩ := (frameQuiet_side _).around hdue rfl
  have hso : u.o = s.o := by simp [State.o, ho]
  have hsz : u.z = s.z := by simp [State.z, hz]
  rw [kd, ko, kz]
  simp only [kf, ← hf]
  rw [← hd, ← ho, ← hz, ← hso, ← hsz]
  generalize s.nextReading.minute = m
  obtain ⟨h, h1, h2⟩ | ⟨h, h1, h2, h3⟩ | ⟨h, h1, h2⟩ := frameWork_cases m u <;> rw [h]
  · exact ⟨rfl, rfl, fun hd _ => hd, fun hd ho _ => absurd (h1 hd) (by omega), fun hd ho _ => absurd (h1 hd) (by omega),
      fun hd _ => hd, fun hd hz => absurd (h2 hd) (by omega), fun _ => rfl, fun q => by simp⟩
  · simp only [h1]
    exact ⟨rfl, rfl, fun _ ho => absurd ho (by omega), fun _ _ _ => rfl, fun _ _ hz => absurd hz (by omega),
      fun hd => (nomatch hd), fun hd => (nomatch hd), fun hd => by simp at hd, fun q => by simp⟩
  · have hne : u.day ≠ .ended := by rcases h1 with hd | ⟨hd, -⟩ <;> simp [hd]
    refine ⟨rfl, rfl, fun hd ho => ?_, fun _ _ hz => absurd hz (by omega), fun _ _ _ => rfl, fun _ hz => absurd hz (by omega),
      fun _ _ => rfl, fun hd => ?_, fun q => by simp [endFrame_port, hne.symm]⟩
    · rcases h1 with h1 | ⟨-, h1⟩
      · rw [hd] at h1
        cases h1
      · omega
    · rcases h1 with h1 | ⟨h1, -⟩ <;> simp [h1] at hd

/-- Settles O8: the works around the frame's leave the book as it is for a minute at Z or later, and the end of the frame
empties it. -/
theorem frameEnd : Obligations.FrameEnd := by
  intro s hdue hday hz
  refine ⟨_, exec_minuteTick hdue, ?_⟩
  obtain ⟨u, hu, ht⟩ := (bookStays_side _).around hdue rfl
  generalize s.nextReading.minute = m at hday hz hu ht
  replace hu := hu (.inr (.inr hz))
  obtain ⟨hd, ho, hcz⟩ := hu.frame
  obtain ⟨hslots, hqueue⟩ := hu.passes
  have hso : u.o = s.o := by simp [State.o, ho]
  have hsz : u.z = s.z := by simp [State.z, hcz]
  have hend : frameWork m u = raiseAll .frame (endFrame m u) := by
    obtain ⟨-, h1, h2⟩ | ⟨-, -, -, h⟩ | ⟨h, -⟩ := frameWork_cases m u
    · rw [hd, hso, hsz] at *
      rcases hday with hday | ⟨hday, hle⟩
      · exact absurd (h2 hday) (by omega)
      · exact absurd (h1 hday) (by omega)
    · omega
    · exact h
  rw [hend] at ht
  replace ht := ht (.inl (by simp))
  obtain ⟨kslots, kqueue⟩ := ht.passes
  have hslot : ∀ i : SlotNo, (Machine.secondTick s).slots[i] = { s.slots[i] with pass := none } := fun i => by
    simp only [kslots, raiseAll_slots]
    rw [endFrame_slot]
    simp only [hslots]
  refine ⟨ht.frame.1, fun a => ⟨?_, ?_⟩, fun i => ?_, ?_, fun q => ?_⟩
  · rw [ht.windows, raiseAll_att, endFrame_att, hu.windows, endWindow_eq]
  · exact ht.offer (by simp) a (by rw [raiseAll_att, endFrame_att])
  · rw [hslot]
    exact ⟨rfl, rfl⟩
  · rw [kqueue, raiseAll_freeQueue, endFrame_freeQueue, hqueue]
    simp only [hslots]
  · have hlist : ∀ a, (u.att a).list = (s.att a).list := fun a => by rw [Attraction.list, hu.windows, Attraction.list]
    rw [ht.flag, raiseAll_port, endFrame_port, has_raise, has_raiseIf, hu.flag, Port.namesSome, hu.shadow]
    simp only [hlist]
    cases (s.port q).shadow <;> simp

end Sys2Proof.Proofs
end

section
/-! PROOFS. The book at a minute tick: the works of one tick, in any order, move each attraction's windows once (R94 to R98,
R108, R112, R114, R126, R128). -/

namespace Sys2Proof.Machine

/-! ## One window -/

/-- A window that is not FUTURE, or whose opening time has not come, does not open (R95). -/
theorem openStep_stays {m o : Nat} {d : Descriptor} {down : Bool} {w : Nat} {x : Window}
    (h : x.state ≠ .future ∨ m + d.earlyGrace < o + w * d.length) : openStep m o d down w x = x := by
  refine if_neg fun hc => ?_
  simp only [openedBy, Bool.and_eq_true, decide_eq_true_eq] at hc
  rw [windowStart] at hc
  rcases h with h | h
  · exact h hc.1
  · omega

theorem openStep_opens {m o : Nat} {d : Descriptor} {down : Bool} {w : Nat} {x : Window} (h : x.state = .future)
    (hle : o + w * d.length ≤ m + d.earlyGrace) :
    openStep m o d down w x = { x with state := if down then .slipped else .opened } := by
  simp [openStep, openedBy, windowStart, h, hle]

/-- A window that is not OPEN, or whose closing time has not come, does not close (R96). -/
theorem closeStep_stays {m o z : Nat} {d : Descriptor} {w : Nat} {x : Window}
    (h : x.state ≠ .opened ∨ m < closingTime o z d w) : closeStep m o z d w x = x := by
  refine if_neg fun hc => ?_
  simp only [Bool.and_eq_true, decide_eq_true_eq] at hc
  rcases h with h | h
  · exact h hc.1
  · omega

theorem closeStep_closes {m o z : Nat} {d : Descriptor} {w : Nat} {x : Window} (h : x.state = .opened)
    (hle : closingTime o z d w ≤ m) : closeStep m o z d w x = { x with state := .closed, endedAt := some m } := by
  simp [closeStep, h, hle]

theorem retired_iff (m o : Nat) (x : Window) :
    retired m o x = true ↔ (x.state = .closed ∨ x.state = .void) ∧ max (x.endedAt.getD 0) o + 30 ≤ m := by
  simp only [retired, Bool.and_eq_true, Bool.or_eq_true, decide_eq_true_eq]
  rfl

theorem retireStep_stays {m o : Nat} {x : Window}
    (h : (x.state ≠ .closed ∧ x.state ≠ .void) ∨ m < max (x.endedAt.getD 0) o + 30) : retireStep m o x = x := by
  refine if_neg fun hr => ?_
  obtain ⟨hs, hm⟩ := (retired_iff m o x).mp hr
  rcases h with ⟨h1, h2⟩ | h
  · exact hs.elim h1 h2
  · omega

theorem retireStep_retires {m o : Nat} {x : Window} (h : retired m o x = true) :
    retireStep m o x = { x with state := .spent } := if_pos h

/-- A window that is neither FUTURE nor OPEN can only retire (R98). -/
theorem tickWindow_settled {m o z : Nat} {d : Descriptor} {down : Bool} {w : Nat} {x : Window} (hf : x.state ≠ .future)
    (ho : x.state ≠ .opened) : tickWindow m o z d down w x = retireStep m o x := by
  rw [tickWindow, openStep_stays (.inl hf), closeStep_stays (.inl ho)]

/-- A window that opens, or stands OPEN, closes at the same tick where its closing time has come, and does not retire (R96,
R98). -/
theorem retireStep_closed (m o : Nat) (x : Window) :
    retireStep m o { x with state := .closed, endedAt := some m } = { x with state := .closed, endedAt := some m } :=
  retireStep_stays (.inr (by simp only [Option.getD_some]; omega))

/-- A window after the Book's work is as R95 to R98 say. -/
theorem tickWindow_movedAt (m o z : Nat) (r : Attraction) (w : Nat) (x : Window) :
    MovedAt m o z r w x (tickWindow m o z r.desc (r.state = .down) w x) where
  early hf hlt := by
    rw [tickWindow, openStep_stays (.inr hlt), closeStep_stays (.inl (by simp [hf])), retireStep_stays (.inl (by simp [hf]))]
  slips hf hle hd := by
    rw [tickWindow, openStep_opens hf hle, closeStep_stays (.inl (by simp [hd])), retireStep_stays (.inl (by simp [hd]))]
    simp [hd]
  opens hf hle hd hlt := by
    rw [tickWindow, openStep_opens hf hle, closeStep_stays (.inr hlt), retireStep_stays (.inl (by simp [hd]))]
    simp [hd]
  passes hf hle hd hge := by
    rw [tickWindow, openStep_opens hf hle, closeStep_closes (by simp [hd]) hge]
    exact retireStep_closed m o x
  stays ho hlt := by
    rw [tickWindow, openStep_stays (.inl (by simp [ho])), closeStep_stays (.inr hlt), retireStep_stays (.inl (by simp [ho]))]
  closes ho hge := by
    rw [tickWindow, openStep_stays (.inl (by simp [ho])), closeStep_closes ho hge]
    exact retireStep_closed m o x
  rests h := by
    rcases h with h | h <;>
      rw [tickWindow_settled (by simp [h]) (by simp [h]), retireStep_stays (.inl (by simp [h]))]
  keeps h hlt := by
    rcases h with h | h <;> rw [tickWindow_settled (by simp [h]) (by simp [h]), retireStep_stays (.inr hlt)]
  retires h hle := by
    have hr : retired m o x = true := (retired_iff m o x).mpr ⟨h, hle⟩
    rcases h with h | h <;> rw [tickWindow_settled (by simp [h]) (by simp [h]), retireStep_retires hr]

/-- What opening and closing leave of a window: itself, or one that is OPEN or SLIPPED, or one CLOSED at m (R95, R96). -/
theorem closeStep_openStep_cases (m o z : Nat) (d : Descriptor) (down : Bool) (w : Nat) (x : Window) :
    closeStep m o z d w (openStep m o d down w x) = x ∨
      ((closeStep m o z d w (openStep m o d down w x)).state = .opened ∨
        (closeStep m o z d w (openStep m o d down w x)).state = .slipped) ∨
      closeStep m o z d w (openStep m o d down w x) = { x with state := .closed, endedAt := some m } := by
  by_cases hc : (openStep m o d down w x).state = .opened ∧ closingTime o z d w ≤ m
  · refine .inr (.inr ?_)
    rw [closeStep_closes hc.1 hc.2]
    unfold openStep
    split <;> rfl
  · rw [closeStep_stays (by rwa [← not_lt, not_and_or, not_not] at hc)]
    by_cases ho : x.state = .future ∧ o + w * d.length ≤ m + d.earlyGrace
    · rw [openStep_opens ho.1 ho.2]
      cases down <;> simp
    · exact .inl (openStep_stays (by rwa [← not_lt, not_and_or, not_not] at ho))

/-- A window comes to be SPENT at a minute tick exactly where its retention has run (R97). -/
theorem spent_iff_retired (m o z : Nat) (d : Descriptor) (down : Bool) (w : Nat) (x : Window) :
    x.state ≠ .spent ∧ (tickWindow m o z d down w x).state = .spent ↔ retired m o x = true := by
  constructor
  · rintro ⟨hx, hy⟩
    have hcases := closeStep_openStep_cases m o z d down w x
    rw [tickWindow] at hy
    generalize closeStep m o z d w (openStep m o d down w x) = y at hy hcases
    obtain rfl | hlive | rfl := hcases
    · by_contra hr
      rw [retireStep, if_neg hr] at hy
      exact hx hy
    · rw [retireStep_stays (.inl (by rcases hlive with h | h <;> simp [h]))] at hy
      rcases hlive with h | h <;> simp [h] at hy
    · rw [retireStep_closed] at hy
      cases hy
  · intro hr
    obtain ⟨hs, -⟩ := (retired_iff m o x).mp hr
    rcases hs with hs | hs <;>
      rw [tickWindow_settled (by simp [hs]) (by simp [hs]), retireStep_retires hr] <;> simp [hs]

/-! ## One list -/

theorem tickedList_congr {r x : Attraction} (hs : x.state = r.state) (hd : x.desc = r.desc) (m o z : Nat) :
    tickedList m o z x = tickedList m o z r := by
  funext xs
  simp only [tickedList, hs, hd]

theorem getElem?_tickedList (m o z : Nat) (r : Attraction) (xs : List Window) (w : Nat) :
    (tickedList m o z r xs)[w]? = xs[w]?.map (tickWindow m o z r.desc (r.state = .down) w) := List.getElem?_mapIdx

@[simp] theorem length_tickedList (m o z : Nat) (r : Attraction) (xs : List Window) :
    (tickedList m o z r xs).length = xs.length := List.length_mapIdx

/-! ## One slot -/

theorem ticked_empty {m o z : Nat} {a : AttrNo} {r : Attraction} {xs : List Window} {x : Slot} (h : x.pass = none) :
    x.ticked m o z a r xs = x := by
  obtain ⟨g, pass⟩ := x
  obtain rfl : pass = none := h
  rfl

theorem names_any (a : AttrNo) (ws : List Nat) (r : Pass) :
    (ws.any fun w => r.names a w) = (decide (r.attraction = a) && decide (r.window ∈ ws)) := by
  rw [Bool.eq_iff_iff]
  simp only [List.any_eq_true, Pass.names, Bool.and_eq_true, decide_eq_true_eq]
  constructor
  · rintro ⟨w, hw, ha, rfl⟩
    exact ⟨ha, hw⟩
  · rintro ⟨ha, hw⟩
    exact ⟨_, hw, ha, rfl⟩

/-- The Book's work for one attraction leaves the slots of the others' passes alone. -/
theorem ticked_other {m o z : Nat} {a : AttrNo} {r : Attraction} {xs : List Window} {x : Slot} {p : Pass}
    (h : x.pass = some p) (hne : p.attraction ≠ a) : x.ticked m o z a r xs = x := by
  obtain ⟨g, pass⟩ := x
  obtain rfl : pass = some p := h
  simp [Slot.ticked, Slot.retagIf, Slot.freeIf, names_any, hne]

@[simp] theorem ticked_generation (m o z : Nat) (a : AttrNo) (r : Attraction) (xs : List Window) (x : Slot) :
    (x.ticked m o z a r xs).generation = x.generation := by
  simp [Slot.ticked]

/-- The Book's work for a pass's own attraction (R126, R128). -/
theorem ticked_pass {m o z : Nat} {r : Attraction} {xs : List Window} {x : Slot} {p : Pass} (h : x.pass = some p) :
    (x.ticked m o z p.attraction r xs).pass =
      if p.window ∈ retiringIn m o xs then none
      else if p.state = .issued ∧ closedBetween xs (tickedList m o z r xs) p.window = true then
        some { p with state := .expired }
      else some p := by
  obtain ⟨g, pass⟩ := x
  obtain rfl : pass = some p := h
  simp only [Slot.ticked, Slot.retagIf, decide_true, Bool.true_and, Bool.and_eq_true, decide_eq_true_eq]
  split <;> simp [Slot.freeIf, names_any] <;> split <;> rfl

theorem ticked_attraction {m o z : Nat} {a : AttrNo} {r : Attraction} {xs : List Window} {x : Slot} {p p' : Pass}
    (h : x.pass = some p) (h' : (x.ticked m o z a r xs).pass = some p') : p'.attraction = p.attraction := by
  by_cases ha : p.attraction = a
  · subst ha
    rw [ticked_pass h] at h'
    split at h'
    · cases h'
    · split at h' <;> cases h' <;> rfl
  · rw [ticked_other h ha, h] at h'
    cases h'
    rfl

/-- With no list nothing moves. -/
theorem ticked_nil (m o z : Nat) (a : AttrNo) (r : Attraction) (x : Slot) : x.ticked m o z a r [] = x := by
  obtain ⟨g, pass⟩ := x
  cases pass with
  | none => rfl
  | some p => simp [Slot.ticked, Slot.retagIf, Slot.freeIf, closedBetween, tickedList, retiringIn]

theorem ticked_congr {r r' : Attraction} (hs : r'.state = r.state) (hd : r'.desc = r.desc) (m o z : Nat) (a : AttrNo)
    (xs : List Window) (x : Slot) : x.ticked m o z a r' xs = x.ticked m o z a r xs := by
  simp only [Slot.ticked, tickedList_congr hs hd]

/-! ## The slots of one attraction's retirements -/

theorem retiring_eq (s : State) (m o : Nat) (a : AttrNo) :
    s.retiring m o a = (retiringIn m o (s.att a).list).flatMap fun w => s.slotsWhere (Pass.names a w) := by
  have hf : ∀ w, (match (s.att a).window w with
      | some x => x.due m o
      | none => false) = ((s.att a).list[w]?.map (retired m o)).getD false := fun w => by
    unfold Attraction.window
    cases (s.att a).list[w]? <;> rfl
  simp only [slotsWhere_eq]
  exact congrArg (List.flatMap _) (List.filter_congr fun w _ => hf w)

/-! ## A run of works -/

/-- Whether the Book's work at minute m moves a window of a record (R102). -/
def Attraction.moves (m o z : Nat) (r : Attraction) : Bool := statesDiffer r.list (tickedList m o z r r.list)

/-- What a run of works at minute m has made of a state s, when it has done the Book's work for the given attractions, in
that order: their windows have moved and their offers stand, the slots of their passes with them, and the rest of the book
is as it was. -/
structure BookRun (m o z : Nat) (s u : State) (done : List AttrNo) : Prop where
  day : u.day = .armed ∨ u.day = .opened
  open_ : u.openMinute = some o
  close : u.closeMinute = some z
  state : ∀ a, (u.att a).state = (s.att a).state
  desc : ∀ a, (u.att a).desc = (s.att a).desc
  windows : ∀ a, (u.att a).windows =
    if a ∈ done then (s.att a).windows.map (tickedList m o z (s.att a)) else (s.att a).windows
  offer : ∀ a, a ∈ done → (s.att a).windows.isSome = true → (u.att a).offer = offerNow u (u.att a)
  empty : ∀ i : SlotNo, s.slots[i].pass = none → u.slots[i] = s.slots[i]
  slot : ∀ (i : SlotNo) p, s.slots[i].pass = some p → u.slots[i] =
    if p.attraction ∈ done then
      s.slots[i].ticked m o z p.attraction (s.att p.attraction) (s.att p.attraction).list
    else s.slots[i]
  queue : u.freeQueue = s.freeQueue ++ done.flatMap (s.retiring m o)
  shadow : ∀ q, (u.port q).shadow = (s.port q).shadow
  flag : ∀ q, (u.port q).has .window =
    ((s.port q).has .window || (s.port q).namesSome fun a => decide (a ∈ done) && (s.att a).moves m o z)

section
variable {m o z : Nat} {s u : State} {done : List AttrNo}

theorem SameDay.offerNow {s t : State} (h : SameDay s t) (r : Attraction) : offerNow t r = offerNow s r :=
  offerNow_congr h.day (by rw [State.o, h.open_, State.o]) (by rw [State.now, h.clock, State.now]) r r.offer

/-- The offer of the moment rests on the state, the descriptor, the list and the posted minutes of a record (R105, R108). -/
theorem offerNow_sameTerms {r x : Attraction} (h : SameTerms r x) (hp : x.posted = r.posted) (s : State) :
    offerNow s x = offerNow s r := by
  have hl : x.list = r.list := by rw [Attraction.list, h.windows, Attraction.list]
  have hb : canBook s.o s.now x 1 = canBook s.o s.now r 1 := by
    funext w
    rw [canBook, canBook, Attraction.window, Attraction.window, earliestStart, earliestStart, hl, h.desc, hp]
  simp only [Machine.offerNow, chooseEarliest, h.state, h.desc, hl, hb]

/-- A run goes on while the frame's minutes, the records' terms, the passes, the shadows and the WINDOW flags stay. -/
theorem BookRun.goes_on {v : State} (h : BookRun m o z s u done) (hd : v.day = .armed ∨ v.day = .opened)
    (ho : v.openMinute = u.openMinute) (hz : v.closeMinute = u.closeMinute)
    (hs : ∀ a, (v.att a).state = (u.att a).state) (hdesc : ∀ a, (v.att a).desc = (u.att a).desc)
    (hw : ∀ a, (v.att a).windows = (u.att a).windows)
    (hoff : ∀ a ∈ done, (u.att a).offer = offerNow u (u.att a) → (v.att a).offer = offerNow v (v.att a))
    (hp : Part.passes.same u v) (hsh : ∀ q, (v.port q).shadow = (u.port q).shadow)
    (hf : ∀ q, (v.port q).has .window = (u.port q).has .window) : BookRun m o z s v done := by
  obtain ⟨hslots, hqueue⟩ := hp
  exact {
    day := hd
    open_ := ho.trans h.open_
    close := hz.trans h.close
    state := fun a => (hs a).trans (h.state a)
    desc := fun a => (hdesc a).trans (h.desc a)
    windows := fun a => (hw a).trans (h.windows a)
    offer := fun a ha hl => hoff a ha (h.offer a ha hl)
    empty := fun i hi => by simp only [hslots]; exact h.empty i hi
    slot := fun i p hi => by simp only [hslots]; exact h.slot i p hi
    queue := hqueue.trans h.queue
    shadow := fun q => (hsh q).trans (h.shadow q)
    flag := fun q => (hf q).trans (h.flag q) }

theorem BookRun.settle (h : BookRun m o z s u done) : BookRun m o z s (settle u) done :=
  h.goes_on h.day rfl rfl (fun _ => rfl) (fun _ => rfl) (fun _ => rfl) (fun _ _ h => h) ⟨rfl, rfl⟩ (settle_port_shadow u)
    fun q => settle_has_edge u q .window rfl

/-- The frame's work within O..Z - 1 opens an ARMED frame, computing every offer, or does nothing (R10, R109). -/
theorem BookRun.frame (h : BookRun m o z s u done) (hmz : m < z) : BookRun m o z s (frameWork m u) done := by
  obtain ⟨hw, -⟩ | ⟨hw, -⟩ | ⟨-, -, hz⟩ := frameWork_cases m u
  · rwa [hw]
  · rw [hw]
    have ha : ∀ a, (raiseAll .frame (openFrameDay u)).att a =
        { u.att a with offer := offerNow (openFrameDay u) (u.att a) } := fun a => by
      rw [raiseAll_att, openFrameDay_att]
    refine h.goes_on (.inr rfl) rfl rfl (fun a => by rw [ha]) (fun a => by rw [ha]) (fun a => by rw [ha])
      (fun a _ _ => ?_) ⟨rfl, rfl⟩ (fun q => by simp) (fun q => by simp)
    rw [ha]
    exact (offerNow_congr (s := openFrameDay u) rfl rfl rfl _ _).symm
  · have : u.z = z := by simp [State.z, h.close]
    omega

/-- The Estimator's work keeps every offer current: a posted value that moved brings a new offer (R84, R109). -/
theorem BookRun.estimator (h : BookRun m o z s u done) (a : AttrNo) : BookRun m o z s (estimatorWork m a u) done := by
  have hsame := estimatorWork_sameDay m a u
  have ht := estimate_sameTerms u.o m (u.att a)
  refine h.goes_on (hsame.day ▸ h.day) hsame.open_ hsame.close (fun b => ?_) (fun b => ?_)
    (estimatorWork_stays m a u).windows (fun b _ hb => ?_) (estimatorWork_passes m a u)
    (fun q => by rw [port_congr (estimatorWork_ports ..)]) (fun q => by rw [port_congr (estimatorWork_ports ..)])
  · obtain h | ⟨rfl, ⟨h, -⟩ | h⟩ := estimatorWork_att m a b u <;> rw [h]
    · exact ht.state
    · exact ht.state
  · obtain h | ⟨rfl, ⟨h, -⟩ | h⟩ := estimatorWork_att m a b u <;> rw [h]
    · exact ht.desc
    · exact ht.desc
  · rw [hsame.offerNow]
    obtain h | ⟨rfl, ⟨h, hp⟩ | h⟩ := estimatorWork_att m a b u <;> rw [h]
    · exact hb
    · rw [ht.offer, offerNow_sameTerms ht hp]
      exact hb
    · exact (offerNow_congr rfl rfl rfl _ _).symm

/-- The slots of an attraction whose book work is still to come hold its passes as they were. -/
theorem BookRun.holds (h : BookRun m o z s u done) {a : AttrNo} (ha : a ∉ done) (w : Nat) (i : SlotNo) :
    u.slots[i].holds (Pass.names a w) = s.slots[i].holds (Pass.names a w) := by
  cases hp : s.slots[i].pass with
  | none => rw [h.empty i hp]
  | some p =>
    rw [h.slot i p hp]
    split
    · next hd =>
      have hne : p.attraction ≠ a := fun e => ha (e ▸ hd)
      have hfalse : ∀ p' : Pass, p'.attraction = p.attraction → p'.names a w = false := fun p' e => by
        simp [Pass.names, e, hne]
      rw [Bool.eq_iff_iff, holds_iff, holds_iff]
      constructor
      · rintro ⟨p', hp', hn⟩
        rw [hfalse p' (ticked_attraction hp hp')] at hn
        cases hn
      · rintro ⟨p', hp', hn⟩
        rw [hp] at hp'
        cases hp'
        rw [hfalse p rfl] at hn
        cases hn
    · rfl

/-- A slot after one attraction more has had its book work. -/
theorem BookRun.slot_ticked (h : BookRun m o z s u done) {a : AttrNo} (ha : a ∉ done) {i : SlotNo} {p : Pass}
    (hp : s.slots[i].pass = some p) :
    u.slots[i].ticked m o z a (s.att a) (s.att a).list =
      if p.attraction ∈ done ++ [a] then
        s.slots[i].ticked m o z p.attraction (s.att p.attraction) (s.att p.attraction).list
      else s.slots[i] := by
  rw [h.slot i p hp]
  by_cases hd : p.attraction ∈ done
  · have hne : p.attraction ≠ a := fun e => ha (e ▸ hd)
    rw [if_pos hd, if_pos (by simp [hd])]
    cases hq : (s.slots[i].ticked m o z p.attraction (s.att p.attraction) (s.att p.attraction).list).pass with
    | none => exact ticked_empty hq
    | some p' => exact ticked_other hq (by rwa [ticked_attraction hp hq])
  · rw [if_neg hd]
    by_cases he : p.attraction = a
    · subst he
      rw [if_pos (by simp)]
    · rw [if_neg (by simp [hd, he]), ticked_other hp he]

/-- WINDOW at the ports that watch one attraction more. -/
theorem namesSome_append (q : Port) (a : AttrNo) (f : AttrNo → Bool) :
    q.namesSome (fun b => decide (b ∈ done ++ [a]) && f b) =
      (q.namesSome (fun b => decide (b ∈ done) && f b) || (f a && q.namesSome (· = a))) := by
  unfold Port.namesSome
  cases q.shadow with
  | none => simp
  | some x =>
    by_cases he : x.attraction = a
    · subst he
      by_cases hd : x.attraction ∈ done <;> simp [hd]
    · simp [he]

/-- The Book's work for an attraction with a list, the first at this tick (R94 to R98, R109). -/
theorem BookRun.book_list (h : BookRun m o z s u done) (hom : o ≤ m) (hmz : m < z) {a : AttrNo} (ha : a ∉ done)
    {xs : List Window} (hxs : (s.att a).windows = some xs) : BookRun m o z s (bookWork m a u) (done ++ [a]) := by
  have hlist : (s.att a).list = xs := by simp [Attraction.list, hxs]
  have hu : (u.att a).windows = some xs := by rw [h.windows, if_neg ha, hxs]
  have htl : tickedList m o z (u.att a) = tickedList m o z (s.att a) := tickedList_congr (h.state a) (h.desc a) m o z
  rw [bookWork_moves h.open_ h.close hu h.day hom hmz]
  have hsame : SameDay u (recomputeOffer a (moveWindows m o z a xs u)) :=
    (moveWindows_sameDay m o z a xs u).trans ⟨rfl, rfl, rfl, rfl, rfl, rfl⟩
  have hself : (recomputeOffer a (moveWindows m o z a xs u)).att a =
      { u.att a with
        windows := some (tickedList m o z (s.att a) xs)
        offer := offerNow (moveWindows m o z a xs u) { u.att a with windows := some (tickedList m o z (s.att a) xs) } } := by
    rw [recomputeOffer_att_self, moveWindows_att, if_pos rfl, htl]
  have hother : ∀ b, b ≠ a → (recomputeOffer a (moveWindows m o z a xs u)).att b = u.att b := fun b hb => by
    rw [recomputeOffer_att_ne _ hb, moveWindows_att, if_neg hb]
  have hslot : ∀ i : SlotNo, (recomputeOffer a (moveWindows m o z a xs u)).slots[i] =
      u.slots[i].ticked m o z a (s.att a) (s.att a).list := fun i => by
    rw [hlist, ← ticked_congr (h.state a) (h.desc a)]
    exact moveWindows_slot m o z a xs u i
  exact {
    day := hsame.day ▸ h.day
    open_ := hsame.open_.trans h.open_
    close := hsame.close.trans h.close
    state := fun b => by
      by_cases hb : b = a
      · rw [hb, hself, ← h.state a]
      · rw [hother b hb, h.state b]
    desc := fun b => by
      by_cases hb : b = a
      · rw [hb, hself, ← h.desc a]
      · rw [hother b hb, h.desc b]
    windows := fun b => by
      by_cases hb : b = a
      · rw [hb, hself, if_pos (by simp), hxs]
        rfl
      · rw [hother b hb, h.windows b]
        simp [hb]
    offer := fun b hbd hl => by
      rw [hsame.offerNow]
      by_cases hb : b = a
      · rw [hb, hself, (moveWindows_sameDay m o z a xs u).offerNow]
        exact (offerNow_congr rfl rfl rfl _ _).symm
      · rw [hother b hb]
        exact h.offer b (by simpa [hb] using hbd) hl
    empty := fun i hi => by
      rw [hslot, h.empty i hi]
      exact ticked_empty hi
    slot := fun i p hp => by rw [hslot, h.slot_ticked ha hp]
    queue := by
      rw [recomputeOffer_freeQueue, moveWindows_freeQueue, h.queue, List.flatMap_append, List.flatMap_singleton,
        retiring_eq, hlist, List.append_assoc]
      simp only [slotsWhere_eq, h.holds ha]
    shadow := fun q => by rw [recomputeOffer_port, moveWindows_port, raiseIf_shadow, h.shadow]
    flag := fun q => by
      have hm : statesDiffer xs (tickedList m o z (u.att a) xs) = (s.att a).moves m o z := by
        rw [htl, Attraction.moves, hlist]
      have hwatch : u.watches q a = (s.port q).namesSome (· = a) := by
        rw [State.watches, Port.namesSome, h.shadow, Port.namesSome]
      rw [recomputeOffer_port, moveWindows_port, has_raiseIf, h.flag, namesSome_append, hm, hwatch, Bool.or_assoc]
      simp only [decide_true, Bool.true_and] }

/-- The Book's work for an attraction without a list. -/
theorem BookRun.book_none (h : BookRun m o z s u done) {a : AttrNo} (ha : a ∉ done)
    (hn : (s.att a).windows = none) : BookRun m o z s (bookWork m a u) (done ++ [a]) := by
  have hlist : (s.att a).list = [] := by simp [Attraction.list, hn]
  rw [bookWork_idle (.inl (by rw [h.windows, if_neg ha, hn]))]
  exact { h with
    windows := fun b => by
      by_cases hb : b = a
      · rw [hb, if_pos (by simp), h.windows, if_neg ha, hn]
        rfl
      · rw [h.windows b]
        simp [hb]
    offer := fun b hbd hl => by
      by_cases hb : b = a
      · rw [hb, hn] at hl
        cases hl
      · exact h.offer b (by simpa [hb] using hbd) hl
    slot := fun i p hp => by rw [← h.slot_ticked ha hp, hlist, ticked_nil]
    queue := by
      rw [List.flatMap_append, List.flatMap_singleton, retiring_eq, hlist, h.queue]
      simp [retiringIn]
    flag := fun q => by
      have hm : (s.att a).moves m o z = false := by simp [Attraction.moves, hlist, tickedList, statesDiffer]
      rw [namesSome_append, hm, Bool.false_and, Bool.or_false, h.flag] }

theorem BookRun.book (h : BookRun m o z s u done) (hom : o ≤ m) (hmz : m < z) {a : AttrNo} (ha : a ∉ done) :
    BookRun m o z s (bookWork m a u) (done ++ [a]) := by
  cases hw : (s.att a).windows with
  | none => exact h.book_none ha hw
  | some xs => exact h.book_list hom hmz ha hw

/-- The attraction whose book a work moves. -/
def TickWork.book? : TickWork → Option AttrNo
  | .frame => none
  | .estimator _ => none
  | .book a => some a

/-- A run of works that takes no attraction's book twice. -/
theorem BookRun.events (h : BookRun m o z s u done) (hom : o ≤ m) (hmz : m < z) {works : List TickWork}
    (hn : (done ++ works.filterMap TickWork.book?).Nodup) :
    BookRun m o z s (works.foldl (tickEvent m) u) (done ++ works.filterMap TickWork.book?) := by
  induction works generalizing u done with
  | nil => simpa using h
  | cons w works ih =>
    cases w with
    | frame => exact ih (h.frame hmz).settle hn
    | estimator a => exact ih (h.estimator a).settle hn
    | book a =>
      have hb : (TickWork.book a :: works).filterMap TickWork.book? = a :: works.filterMap TickWork.book? := rfl
      rw [hb, List.append_cons] at hn ⊢
      have ha : a ∉ done := fun hd => (List.nodup_append.mp (List.nodup_append.mp hn).1).2.2 a hd a (by simp) rfl
      exact ih (h.book hom hmz ha).settle hn

end

/-- Before the first work the book is as the tick found it. -/
theorem BookRun.start {s v : State} {o z : Nat} (m : Nat) (hd : s.day = .armed ∨ s.day = .opened)
    (ho : s.openMinute = some o) (hz : s.closeMinute = some z) (h : BookStays s v) (ha : v.attractions = s.attractions) :
    BookRun m o z s v [] := by
  have hnone : ∀ q, (s.port q).namesSome (fun a => decide (a ∈ []) && (s.att a).moves m o z) = false := fun q => by
    unfold Port.namesSome
    cases (s.port q).shadow <;> simp
  have hrefl : BookRun m o z s s [] := {
    day := hd
    open_ := ho
    close := hz
    state := fun _ => rfl
    desc := fun _ => rfl
    windows := fun _ => rfl
    offer := fun a hm => by simp at hm
    empty := fun _ _ => rfl
    slot := fun _ _ _ => rfl
    queue := by simp
    shadow := fun _ => rfl
    flag := fun q => by rw [hnone, Bool.or_false] }
  exact hrefl.goes_on (h.frame.1 ▸ hd) h.frame.2.1 h.frame.2.2 (fun a => by rw [att_congr ha]) (fun a => by rw [att_congr ha])
    h.windows (fun a hm => by simp at hm) h.passes h.shadow h.flag

theorem filterMap_book? : tickWorks.filterMap TickWork.book? = List.finRange Config.attractions := by
  have he : ((List.finRange Config.attractions).map TickWork.estimator).filterMap TickWork.book? = [] := by
    simp [List.filterMap_map, Function.comp_def, TickWork.book?]
  have hb : ((List.finRange Config.attractions).map TickWork.book).filterMap TickWork.book? =
      List.finRange Config.attractions := by
    rw [List.filterMap_map]
    exact List.filterMap_some
  rw [tickWorks, List.cons_append, List.filterMap_cons_none rfl, List.filterMap_append, he, hb, List.nil_append]

/-- The attractions stand in a tick's order once each (R2). -/
theorem tickOrder_books (s : State) :
    ((tickOrder s).filterMap TickWork.book?).Perm (List.finRange Config.attractions) := by
  have h := (tickOrder_perm s).filterMap TickWork.book?
  rwa [filterMap_book?] at h

theorem clockTick_start {s : State} {o z : Nat} (m : Nat) (hd : s.day = .armed ∨ s.day = .opened)
    (ho : s.openMinute = some o) (hz : s.closeMinute = some z) :
    BookRun m o z s { clockTick s with choice := (clockTick s).choice + 1 } [] :=
  .start m hd ho hz ((clockTick_stays s).trans (bookStays_choice ..)) ((clockTick_quiet s).1 .attractions (by simp))

/-- A minute tick within O..Z - 1 of an ARMED or OPEN frame does the Book's work once for every attraction (R2, R94). -/
theorem bookRun_secondTick {s : State} {o z m : Nat} (hdue : s.minuteDue = true) (hm : s.nextReading.minute = m)
    (hd : s.day = .armed ∨ s.day = .opened) (ho : s.openMinute = some o) (hz : s.closeMinute = some z) (hom : o ≤ m)
    (hmz : m < z) : ∃ order : List AttrNo, order.Nodup ∧ (∀ a, a ∈ order) ∧ BookRun m o z s (secondTick s) order := by
  have hperm := tickOrder_books (clockTick s)
  have hn := hperm.nodup_iff.mpr (List.nodup_finRange _)
  refine ⟨_, hn, fun a => hperm.mem_iff.mpr (List.mem_finRange a), ?_⟩
  have hrun := (clockTick_start m hd ho hz).events hom hmz (works := tickOrder (clockTick s)) (by rwa [List.nil_append])
  rw [secondTick, if_pos hdue, hm, minuteWork_eq]
  rw [List.nil_append] at hrun
  exact hrun.settle

end Sys2Proof.Machine
end

section
namespace Sys2Proof.Machine

section
variable {m o z : Nat} {s u : State} {done : List AttrNo}

/-! ## What a run leaves when it has done every attraction -/

/-- A slot is freed by an attraction's retirements where its pass names one of the attraction's retiring windows (R128). -/
theorem mem_retiring {a : AttrNo} {i : SlotNo} : i ∈ s.retiring m o a ↔
    ∃ p, s.slots[i].pass = some p ∧ p.attraction = a ∧ p.window ∈ retiringIn m o (s.att a).list := by
  simp only [retiring_eq, slotsWhere_eq, List.mem_flatMap, List.mem_filter, List.mem_finRange, true_and, holds_iff, Pass.names,
    Bool.and_eq_true, decide_eq_true_eq]
  constructor
  · rintro ⟨w, hw, p, hp, ha, rfl⟩
    exact ⟨p, hp, ha, hw⟩
  · rintro ⟨p, hp, ha, hw⟩
    exact ⟨p.window, hw, p, hp, ha, rfl⟩

theorem nodup_retiring (a : AttrNo) : (s.retiring m o a).Nodup := by
  rw [retiring_eq]
  refine List.nodup_flatMap.mpr ⟨fun w _ => ?_, (nodup_retiringIn ..).imp fun {v w} hvw i hv hw => hvw ?_⟩
  · rw [slotsWhere_eq]
    exact (List.nodup_finRange _).filter _
  · simp only [slotsWhere_eq, List.mem_filter, holds_iff, Pass.names, Bool.and_eq_true, decide_eq_true_eq] at hv hw
    obtain ⟨-, p, hp, -, rfl⟩ := hv
    obtain ⟨-, p', hp', -, rfl⟩ := hw
    rw [hp] at hp'
    cases hp'
    rfl

/-- No slot is freed for two attractions. -/
theorem nodup_flatMap_retiring (hn : done.Nodup) : (done.flatMap (s.retiring m o)).Nodup := by
  refine List.nodup_flatMap.mpr ⟨fun a _ => nodup_retiring a, hn.imp fun {a b} hab i ha hb => hab ?_⟩
  obtain ⟨p, hp, rfl, -⟩ := mem_retiring.mp ha
  obtain ⟨p', hp', rfl, -⟩ := mem_retiring.mp hb
  rw [hp] at hp'
  cases hp'
  rfl

/-- The slots freed for one attraction, taken out of all that were freed. -/
theorem filter_flatMap_retiring (hn : done.Nodup) {a : AttrNo} (ha : a ∈ done) :
    ((done.flatMap (s.retiring m o)).filter fun i => (s.slots[i].pass.map (·.attraction)) == some a) =
      s.retiring m o a := by
  have hself : ((s.retiring m o a).filter fun i => (s.slots[i].pass.map (·.attraction)) == some a) = s.retiring m o a := by
    refine List.filter_eq_self.mpr fun i hi => ?_
    obtain ⟨p, hp, rfl, -⟩ := mem_retiring.mp hi
    rw [hp]
    simp
  have hother : ∀ b, b ≠ a → ((s.retiring m o b).filter fun i => (s.slots[i].pass.map (·.attraction)) == some a) = [] := by
    intro b hb
    refine List.filter_eq_nil_iff.mpr fun i hi => ?_
    obtain ⟨p, hp, rfl, -⟩ := mem_retiring.mp hi
    rw [hp]
    simpa using hb
  obtain ⟨before, behind, rfl⟩ := List.append_of_mem ha
  obtain ⟨-, hcons, hdis⟩ := List.nodup_append.mp hn
  have hrest : ∀ bs : List AttrNo, a ∉ bs →
      ((bs.flatMap (s.retiring m o)).filter fun i => (s.slots[i].pass.map (·.attraction)) == some a) = [] := by
    intro bs hbs
    rw [List.filter_flatMap]
    exact List.flatMap_eq_nil_iff.mpr fun b hb => hother b fun e => hbs (e ▸ hb)
  rw [List.flatMap_append, List.flatMap_cons, List.filter_append, List.filter_append, hself,
    hrest before (fun h => hdis a h a (by simp) rfl), hrest behind (List.nodup_cons.mp hcons).1, List.nil_append,
    List.append_nil]

theorem BookRun.list (h : BookRun m o z s u done) {a : AttrNo} (ha : a ∈ done) :
    (u.att a).list = tickedList m o z (s.att a) (s.att a).list := by
  rw [Attraction.list, h.windows, if_pos ha, Attraction.list]
  cases (s.att a).windows <;> rfl

/-- A window before and after the run (R95 to R98). -/
theorem BookRun.window (h : BookRun m o z s u done) {a : AttrNo} (ha : a ∈ done) (w : Nat) :
    (u.att a).window w =
      ((s.att a).window w).map (tickWindow m o z (s.att a).desc ((s.att a).state = .down) w) := by
  rw [Attraction.window, h.list ha, getElem?_tickedList]
  rfl

/-- A pass before and after the run, where its window is not in the list. -/
theorem BookRun.pass_windowless (h : BookRun m o z s u done) {i : SlotNo} {p : Pass} (hp : s.slots[i].pass = some p)
    (hw : (s.att p.attraction).window p.window = none) : u.slots[i].pass = some p := by
  rw [h.slot i p hp]
  split
  · rw [ticked_pass hp, if_neg, if_neg]
    · rw [Attraction.window] at hw
      simp [closedBetween, getElem?_tickedList, hw]
    · rw [mem_retiringIn]
      rintro ⟨x, hx, -⟩
      exact nomatch hx.symm.trans hw
  · exact hp

/-- A pass before and after the run, by its window before and after (R126, R128). -/
theorem BookRun.pass (h : BookRun m o z s u done) {i : SlotNo} {p : Pass} (hp : s.slots[i].pass = some p)
    (ha : p.attraction ∈ done) {x y : Window} (hx : (s.att p.attraction).window p.window = some x)
    (hy : (u.att p.attraction).window p.window = some y) :
    u.slots[i].pass =
      if x.state ≠ .spent ∧ y.state = .spent then none
      else if x.state ≠ .closed ∧ y.state = .closed ∧ p.state = .issued then some { p with state := .expired }
      else some p := by
  rw [h.window ha, hx, Option.map_some, Option.some.injEq] at hy
  subst hy
  rw [Attraction.window] at hx
  have hret : p.window ∈ retiringIn m o (s.att p.attraction).list ↔ retired m o x = true := by
    rw [mem_retiringIn, hx]
    simp
  rw [h.slot i p hp, if_pos ha, ticked_pass hp]
  simp only [hret, spent_iff_retired, closedBetween, getElem?_tickedList, hx]
  refine if_congr Iff.rfl rfl (if_congr ?_ rfl rfl)
  simp only [Bool.and_eq_true, bne_iff_ne, beq_iff_eq, Option.map_some, ne_eq, Option.some.injEq]
  tauto

/-- The Book's work frees the slot of a pass exactly where the pass's window retires (R128). -/
theorem ticked_freed_iff {r : Attraction} {xs : List Window} {x : Slot} {p : Pass} (hp : x.pass = some p) :
    (x.ticked m o z p.attraction r xs).pass = none ↔ p.window ∈ retiringIn m o xs := by
  rw [ticked_pass hp]
  split
  · simpa
  · split <;> simpa

/-- The slots that the run frees are those that its retirements free (R128). -/
theorem BookRun.freed_iff (h : BookRun m o z s u done) (i : SlotNo) :
    i ∈ done.flatMap (s.retiring m o) ↔ s.slots[i].pass ≠ none ∧ u.slots[i].pass = none := by
  simp only [List.mem_flatMap, mem_retiring]
  constructor
  · rintro ⟨a, ha, p, hp, rfl, hw⟩
    exact ⟨by rw [hp]; simp, by rwa [h.slot i p hp, if_pos ha, ticked_freed_iff hp]⟩
  · rintro ⟨hs, hu⟩
    obtain ⟨p, hp⟩ := Option.ne_none_iff_exists'.mp hs
    rw [h.slot i p hp] at hu
    split at hu
    · next ha => exact ⟨_, ha, p, hp, rfl, (ticked_freed_iff hp).mp hu⟩
    · exact absurd hu hs

end

/-- The frame's work does nothing outside OPEN and before O of an ARMED frame (R10, R13). -/
theorem frameWork_idle {m : Nat} {s : State} (hopen : s.day ≠ .opened) (harmed : s.day = .armed → m < s.o) :
    frameWork m s = s := by
  obtain ⟨h, -⟩ | ⟨-, hd, hle, -⟩ | ⟨-, hd | ⟨hd, hle⟩, -⟩ := frameWork_cases m s
  · exact h
  · exact absurd (harmed hd) (by omega)
  · exact absurd hd hopen
  · exact absurd (harmed hd) (by omega)

end Sys2Proof.Machine

namespace Sys2Proof.Proofs

open Sys2Proof.Machine

/-- Settles O9: within O..Z - 1 the works do the Book's work once for every attraction, in some order, and what the run of
them leaves is as R94 to R98 say; elsewhere no work touches the book. -/
theorem windowsAtMinuteTick : Obligations.WindowsAtMinuteTick := by
  constructor
  · intro s o z m hdue hm hd ho hz hom hmz
    obtain ⟨order, hn, hall, h⟩ := bookRun_secondTick hdue hm.symm hd ho hz hom hmz
    have hdrop : (Machine.secondTick s).freeQueue.drop s.freeQueue.length = order.flatMap (s.retiring m o) := by
      rw [h.queue, List.drop_left]
    refine ⟨_, exec_minuteTick hdue, fun a => ⟨?_, ?_⟩, fun a w x hx => ?_, fun i r hr => ⟨?_, ?_, ?_⟩, h.empty, ?_, ?_, ?_,
      ?_, fun a => h.offer a (hall a), fun q => ?_⟩
    · rw [h.windows, if_pos (hall a), Option.isSome_map]
    · rw [h.list (hall a), length_tickedList]
    · exact ⟨_, by rw [h.window (hall a), hx]; rfl, tickWindow_movedAt m o z (s.att a) w x⟩
    · rw [h.slot i r hr, if_pos (hall _), ticked_generation]
    · exact h.pass_windowless hr
    · exact fun x y hx hy => h.pass hr (hall _) hx hy
    · exact ⟨_, h.queue.symm⟩
    · rw [hdrop]
      exact nodup_flatMap_retiring hn
    · rw [hdrop]
      exact h.freed_iff
    · rw [hdrop]
      exact fun a => filter_flatMap_retiring hn (hall a)
    · rw [h.flag, Port.namesSome]
      cases (s.port q).shadow with
      | none => rfl
      | some x =>
        simp only [hall, decide_true, Bool.true_and, Attraction.moves, statesDiffer, h.list (hall _)]
        rw [bne_comm]
  · intro s hdue hidle
    refine ⟨_, exec_minuteTick hdue, ?_⟩
    obtain ⟨u, hu, ht⟩ := (bookStays_side _).around hdue rfl
    generalize s.nextReading.minute = m at hidle hu ht
    replace hidle : (s.day ≠ .armed ∧ s.day ≠ .opened) ∨ s.day = .armed ∧ m < s.o := by
      rcases hidle with hd | hd | hd | h
      · exact .inl (by simp [hd])
      · exact .inl (by simp [hd])
      · exact .inl (by simp [hd])
      · exact .inr h
    have hopen : s.day ≠ .opened := by rcases hidle with ⟨-, h⟩ | ⟨h, -⟩ <;> simp [h]
    have harmed : s.day = .armed → m < s.o := fun hd => hidle.elim (fun h => absurd hd h.1) fun ⟨_, ho⟩ => ho
    have hi : BookIdle m s := hidle.imp_right fun ⟨_, ho⟩ => .inl ho
    have hsu := hu hi
    obtain ⟨hd, ho, -⟩ := hsu.frame
    have hw : frameWork m u = u := frameWork_idle (hd ▸ hopen) (by rwa [hd, State.o, ho])
    rw [hw] at ht
    have hst := hsu.trans (ht (hsu.idle hi))
    exact ⟨hst.windows, hst.passes.1, hst.passes.2, hst.flag⟩

end Sys2Proof.Proofs
end

section
/-! PROOFS. The law of one attraction's record, and that every step keeps it in every record (R20, R21, R70, R81). -/

namespace Sys2Proof.Machine

/-! ## Descriptors -/

theorem inRange_iff (d : Descriptor) :
    d.inRange = true ↔
      (60 ≤ d.rate ∧ d.rate ≤ 6000) ∧ d.share ≤ 90 ∧ d.mergeShare ≤ 100 ∧
        (d.length = 5 ∨ d.length = 10 ∨ d.length = 15 ∨ d.length = 20 ∨ d.length = 30 ∨ d.length = 60) ∧
        (1 ≤ d.seats ∧ d.seats ≤ 64) ∧ (50 ≤ d.fill ∧ d.fill ≤ 100) ∧ (1 ≤ d.shift ∧ d.shift ≤ 6) ∧
        (1 ≤ d.floorRate ∧ d.floorRate ≤ 100) ∧ d.lookAhead ≤ 60 ∧ (50 ≤ d.showRate ∧ d.showRate ≤ 100) ∧
        d.walkOffset ≤ 30 ∧ (d.step = 1 ∨ d.step = 5 ∨ d.step = 10) ∧ (30 ≤ d.maxPosted ∧ d.maxPosted ≤ 240) ∧
        (2 ≤ d.ageLimit ∧ d.ageLimit ≤ 30) ∧ d.earlyGrace ≤ 30 ∧ d.lateGrace ≤ 30 ∧ d.minLead ≤ 120 := by
  simp only [Descriptor.inRange, Bool.and_eq_true, decide_eq_true_eq, List.contains_iff_mem, List.mem_cons,
    List.not_mem_nil, or_false, and_assoc]

theorem combines_iff (d : Descriptor) :
    d.combines = true ↔ d.step ∣ d.maxPosted ∧ (0 < d.share → d.mergeShare ≠ 0) := by
  have hs : d.share = 0 ∨ d.mergeShare ≠ 0 ↔ (0 < d.share → d.mergeShare ≠ 0) := by
    rw [Nat.pos_iff_ne_zero, ← or_iff_not_imp_left]
  simp only [Descriptor.combines, Bool.and_eq_true, Bool.not_eq_true', Bool.and_eq_false_iff, decide_eq_true_eq,
    decide_eq_false_iff_not, Nat.dvd_iff_mod_eq_zero, ← hs, Nat.not_lt, Nat.le_zero, ne_eq]

/-- A descriptor in range has an age limit of at least 2 (R20). -/
theorem ageLimit_of_inRange {d : Descriptor} (h : d.inRange = true) : 2 ≤ d.ageLimit := by
  rw [inRange_iff] at h
  omega

/-- A merge share in range takes no more than the riders there are (R20, R44). -/
theorem mergeShare_of_inRange {d : Descriptor} (h : d.inRange = true) : d.mergeShare ≤ 100 := by
  rw [inRange_iff] at h
  omega

/-! ## One record -/

/-- What the laws of the records, of the age counter and of the posted minutes say of one record (R20, R21, R70, R81). -/
structure Attraction.Lawful (r : Attraction) : Prop where
  used : r.state ≠ .unused → r.desc.inRange = true ∧ r.desc.combines = true
  unused : r.state = .unused → r = .unused
  limit : r.ageCounter ≤ r.desc.ageLimit
  aged : r.aged = true → r.ageCounter = 0
  fresh : r.state = .operating → r.aged = false → 1 ≤ r.ageCounter
  posted : r.state = .operating → r.posted ≤ r.desc.maxPosted ∧ r.desc.step ∣ r.posted

/-- The three laws say this of every record. -/
def State.Lawful (s : State) : Prop := ∀ a, (s.att a).Lawful

theorem lawful_iff (s : State) : s.Lawful ↔ RecordsLaw s ∧ AgeLaw s ∧ PostedLaw s :=
  ⟨fun h => ⟨⟨fun a => (h a).used, fun a => (h a).unused⟩,
      ⟨fun a => (h a).limit, fun a => (h a).aged, fun a => (h a).fresh⟩, fun a => (h a).posted⟩,
    fun ⟨hr, ha, hp⟩ a => ⟨hr.used a, hr.unused a, ha.limit a, ha.aged a, ha.fresh a, hp a⟩⟩

theorem Attraction.lawful_unused : Attraction.unused.Lawful where
  used h := absurd rfl h
  unused _ := rfl
  limit := Nat.le_refl _
  aged _ := rfl
  fresh h := nomatch h
  posted h := nomatch h

/-- What a record's law rests on, unless the record is UNUSED, is the same in two records. -/
structure Attraction.SameLaw (r x : Attraction) : Prop where
  state : x.state = r.state
  desc : x.desc = r.desc
  ageCounter : x.ageCounter = r.ageCounter
  aged : x.aged = r.aged
  posted : x.posted = r.posted

theorem Attraction.Lawful.same {r x : Attraction} (h : r.Lawful) (k : r.SameLaw x)
    (hu : r = .unused → x = .unused) : x.Lawful where
  used := by rw [k.state, k.desc]; exact h.used
  unused hx := hu (h.unused (k.state.symm.trans hx))
  limit := by rw [k.ageCounter, k.desc]; exact h.limit
  aged := by rw [k.ageCounter, k.aged]; exact h.aged
  fresh := by rw [k.state, k.ageCounter, k.aged]; exact h.fresh
  posted := by rw [k.state, k.posted, k.desc]; exact h.posted

/-- Queues, windows, offer and throughput of a record in use are nothing to its law. -/
theorem Attraction.Lawful.inUse {r x : Attraction} (h : r.Lawful) (hr : r.state ≠ .unused) (k : r.SameLaw x) :
    x.Lawful :=
  h.same k fun e => absurd (congrArg Attraction.state e) hr

/-- A record in use that is not OPERATING is bound by its descriptor and its age counter alone. -/
theorem Attraction.Lawful.idle {r x : Attraction} (h : r.Lawful) (hr : r.state ≠ .unused)
    (hx : x.state = .closed ∨ x.state = .down) (hd : x.desc = r.desc) (hc : x.ageCounter = r.ageCounter)
    (ha : x.aged = r.aged) : x.Lawful where
  used _ := hd ▸ h.used hr
  unused hn := by rcases hx with hx | hx <;> simp [hx] at hn
  limit := by rw [hc, hd]; exact h.limit
  aged := by rw [hc, ha]; exact h.aged
  fresh hn := by rcases hx with hx | hx <;> simp [hx] at hn
  posted hn := by rcases hx with hx | hx <;> simp [hx] at hn

theorem Attraction.Lawful.withWindows {r : Attraction} (h : r.Lawful) (f : List Window → List Window) :
    { r with windows := r.windows.map f }.Lawful :=
  h.same ⟨rfl, rfl, rfl, rfl, rfl⟩ (by rintro rfl; rfl)

theorem Attraction.Lawful.withOffer {r : Attraction} (h : r.Lawful) (s : State) :
    { r with offer := offerNow s r }.Lawful :=
  h.same ⟨rfl, rfl, rfl, rfl, rfl⟩ (by rintro rfl; rfl)

/-! ## The wait of one record -/

/-- The target lies within the cap, and is a multiple of the step where the cap is one (R77, R78). -/
theorem target_cap (o now : Nat) (r : Attraction) (h : r.desc.step ∣ r.desc.maxPosted) :
    (withTarget o now r).target ≤ r.desc.maxPosted ∧ r.desc.step ∣ (withTarget o now r).target := by
  have hw : r.desc.step ∣ roundedWait o now r := Dvd.intro_left _ rfl
  refine ⟨Nat.min_le_right .., ?_⟩
  show _ ∣ min (roundedWait o now r) r.desc.maxPosted
  obtain he | he := min_choice (roundedWait o now r) r.desc.maxPosted <;> rw [he]
  · exact hw
  · exact h

/-- The descent limiter keeps the posted minutes within the cap and a multiple of the step (R79, R81). -/
theorem limited_cap {target posted step top : Nat} (ht : target ≤ top ∧ step ∣ target)
    (hp : posted ≤ top ∧ step ∣ posted) : limited target posted step ≤ top ∧ step ∣ limited target posted step := by
  obtain ⟨htop, hdvd⟩ := ht
  obtain ⟨hptop, hpdvd⟩ := hp
  unfold limited
  split
  · exact ⟨htop, hdvd⟩
  · refine ⟨by omega, ?_⟩
    obtain he | he := max_choice target (posted - step) <;> rw [he]
    · exact hdvd
    · exact Nat.dvd_sub hpdvd (Nat.dvd_refl _)

/-- The law of a record that is OPERATING. -/
theorem Attraction.Lawful.operating {x : Attraction} (hs : x.state = .operating)
    (hd : x.desc.inRange = true ∧ x.desc.combines = true) (hl : x.ageCounter ≤ x.desc.ageLimit)
    (ha : x.aged = true → x.ageCounter = 0) (hf : x.aged = false → 1 ≤ x.ageCounter)
    (hp : x.posted ≤ x.desc.maxPosted ∧ x.desc.step ∣ x.posted) : x.Lawful where
  used _ := hd
  unused hn := by rw [hs] at hn; cases hn
  limit := hl
  aged := ha
  fresh _ := hf
  posted _ := hp

/-- An OPERATING record with its target posted at once keeps the law (R80, R81). -/
theorem immediate_lawful (o now : Nat) {r : Attraction} (hs : r.state = .operating)
    (hd : r.desc.inRange = true ∧ r.desc.combines = true) (hl : r.ageCounter ≤ r.desc.ageLimit)
    (ha : r.aged = true → r.ageCounter = 0) (hf : r.aged = false → 1 ≤ r.ageCounter) :
    (immediate o now r).Lawful :=
  .operating hs hd hl ha hf (target_cap o now r ((combines_iff _).mp hd.2).1)

/-- The Estimator's minute-tick work keeps the law (R65, R70, R81). -/
theorem Attraction.Lawful.estimate {r : Attraction} (h : r.Lawful) (o now : Nat) : (estimate o now r).Lawful := by
  unfold Machine.estimate
  split
  · next hs =>
    have hd := h.used (by simp [hs])
    split
    · exact h
    · next ha =>
      split
      · exact .operating hs hd (Nat.zero_le _) (fun _ => rfl) (fun hn => nomatch hn) (h.posted hs)
      · next hc =>
        exact .operating hs hd ((Nat.sub_le ..).trans h.limit) (fun hn => absurd hn ha)
          (fun _ => Nat.le_sub_of_add_le (Nat.lt_of_not_le hc))
          (limited_cap (target_cap o now _ ((combines_iff _).mp hd.2).1) (h.posted hs))
  · next hs => exact h.idle (by simp [hs]) (.inr hs) rfl rfl rfl
  · exact h
  · exact h

/-! ## Every record -/

/-- The law depends on the records alone. -/
theorem State.Lawful.same {s t : State} (h : s.Lawful) (ha : t.attractions = s.attractions) : t.Lawful := fun a => by
  rw [att_congr ha]
  exact h a

theorem State.Lawful.updAtt {s : State} (h : s.Lawful) {a : AttrNo} {f : Attraction → Attraction}
    (hf : (f (s.att a)).Lawful) : (s.updAtt a f).Lawful := fun b => by
  rw [att_updAtt]
  split
  · exact hf
  · exact h b

theorem State.Lawful.mapAtts {s : State} {f : Attraction → Attraction} (hf : ∀ a, (f (s.att a)).Lawful) :
    (s.mapAtts f).Lawful := fun a => by
  rw [att_mapAtts]
  exact hf a

theorem State.Lawful.recomputeOffer {s : State} (h : s.Lawful) (a : AttrNo) : (recomputeOffer a s).Lawful :=
  h.updAtt ((h a).withOffer s)

theorem State.Lawful.recomputeOffers {s : State} (h : s.Lawful) : (recomputeOffers s).Lawful :=
  .mapAtts fun a => (h a).withOffer s

theorem State.Lawful.changeWindows {s : State} (h : s.Lawful) (a : AttrNo) (f : Window → Window) :
    (changeWindows a f s).Lawful := fun b => by
  rw [changeWindows_att]
  split
  · exact (h a).withWindows _
  · exact h b

/-! ## The works of a tick -/

theorem State.Lawful.estimatorWork {s : State} (h : s.Lawful) (m : Nat) (a : AttrNo) : (estimatorWork m a s).Lawful := by
  have ht : (s.updAtt a (estimate s.o m)).Lawful := h.updAtt ((h a).estimate _ _)
  unfold Machine.estimatorWork
  simp only []
  split
  · exact ht
  · exact ht.recomputeOffer a

/-- The Book moves the windows of an attraction that has a list, and an UNUSED record has none (R86, R94). -/
theorem State.Lawful.bookWork {s : State} (h : s.Lawful) (m : Nat) (a : AttrNo) : (bookWork m a s).Lawful := by
  unfold Machine.bookWork
  split
  · next o z xs _ _ hw =>
    split
    · refine State.Lawful.recomputeOffer (fun b => ?_) a
      rw [moveWindows_att]
      split
      · exact (h a).same ⟨rfl, rfl, rfl, rfl, rfl⟩ fun e => by rw [e] at hw; cases hw
      · exact h b
    · exact h
  · exact h

theorem State.Lawful.endFrame {s : State} (h : s.Lawful) (m : Nat) : (endFrame m s).Lawful := fun a => by
  rw [endFrame_att]
  exact (h a).same ⟨rfl, rfl, rfl, rfl, rfl⟩ fun e => by rw [e]; rfl

theorem State.Lawful.frameWork {s : State} (h : s.Lawful) (m : Nat) : (frameWork m s).Lawful := by
  obtain ⟨he, -⟩ | ⟨he, -⟩ | ⟨he, -⟩ := frameWork_cases m s <;> rw [he]
  · exact h
  · have ht : (openFrameDay s).Lawful := State.Lawful.recomputeOffers (s := { s with day := .opened }) h
    exact ht.same (raiseAll_attractions ..)
  · exact (h.endFrame m).same (raiseAll_attractions ..)

theorem State.Lawful.tickWork {s : State} (h : s.Lawful) (m : Nat) (w : TickWork) : (tickWork m w s).Lawful := by
  cases w with
  | frame => exact h.frameWork m
  | estimator a => exact h.estimatorWork m a
  | book a => exact h.bookWork m a

theorem clockTick_attractions (s : State) : (clockTick s).attractions = s.attractions :=
  (clockTick_quiet s).1 .attractions (by simp)

theorem State.Lawful.secondTick {s : State} (h : s.Lawful) : (secondTick s).Lawful := by
  have hc : (clockTick s).Lawful := h.same (clockTick_attractions s)
  unfold Machine.secondTick
  refine State.Lawful.same ?_ (settle_attractions _)
  split
  · exact foldl_keeps (P := State.Lawful) (fun _ w hb => (hb.tickWork _ w).same (settle_attractions _)) _ _ hc
  · exact hc

/-! ## Counts -/

theorem Attraction.Lawful.applyEntry {r : Attraction} (h : r.Lawful) (n : Nat) : (applyEntry n r).Lawful := by
  unfold Machine.applyEntry
  split
  · next hs => exact h.inUse (by simp [hs]) ⟨rfl, rfl, rfl, rfl, rfl⟩
  · next hs => exact h.inUse (by simp [hs]) ⟨rfl, rfl, rfl, rfl, rfl⟩
  · exact h
  · exact h

/-- A dispatch loads the age counter, with its limit at least 2 (R45). -/
theorem Attraction.Lawful.applyDispatch {r : Attraction} (h : r.Lawful) (n : Nat) : (applyDispatch n r).Lawful := by
  unfold Machine.applyDispatch
  split
  · next hs =>
    have hd := h.used (by simp [hs])
    exact .operating hs hd (Nat.le_refl _) (fun hn => nomatch hn)
      (fun _ => Nat.le_of_succ_le (ageLimit_of_inRange hd.1)) (h.posted hs)
  · exact h

theorem State.Lawful.applyCount {s : State} (h : s.Lawful) (b : Binding) : (applyCount b s).Lawful := by
  unfold Machine.applyCount
  split
  · exact h.updAtt ((h _).applyEntry 1)
  · exact h.updAtt ((h _).applyDispatch _)

theorem State.Lawful.lineWork {s : State} (h : s.Lawful) (levels : Levels) (l : LineNo) :
    (lineWork levels l s).Lawful := by
  unfold Machine.lineWork
  simp only []
  split
  · split
    · exact State.Lawful.applyCount (h.same (setLine_attractions ..)) _
    · exact h
  · exact h

theorem State.Lawful.sampleLines {s : State} (h : s.Lawful) (levels : Levels) : (sampleLines levels s).Lawful :=
  foldl_keeps (P := State.Lawful) (fun _ l hb => (hb.lineWork levels l).same (settle_attractions _)) _ _ h

/-! ## Requests that write no record -/

theorem sendEntry_attractions (e : EntryNo) (passEnd : Bool) (s : State) :
    (sendEntry e passEnd s).attractions = s.attractions := by
  unfold sendEntry
  split <;> rfl

theorem startFrame_attractions (s : State) : (startFrame s).attractions = s.attractions := by
  unfold startFrame
  split
  · exact sendEntry_attractions ..
  · split
    · exact sendEntry_attractions ..
    · rfl

theorem markDirty_attractions (e : EntryNo) (s : State) : (markDirty e s).attractions = s.attractions := by
  unfold markDirty
  split <;> rfl

theorem bindEntry_attractions (e : EntryNo) (b : SignBinding) (s : State) :
    (bindEntry e b s).attractions = s.attractions := by
  unfold bindEntry
  simp only []
  split
  · exact (startFrame_attractions _).trans (markDirty_attractions ..)
  · exact markDirty_attractions ..
  · exact markDirty_attractions ..

/-- The rows that may write a record of an attraction. -/
def Row.writesRecords : Row → Bool
  | .frameOpen | .frameClose | .clearDay | .configure | .release | .setStateOperating | .setStateDown | .setStateClosed
  | .entryReport | .dispatchReport | .queueSet | .issueEarliest | .issueAt | .redeem | .cancel => true
  | _ => false

/-- Every other row leaves the records alone. -/
theorem body_attractions {row : Row} (h : row.writesRecords = false) (p : PortNo) (args : List Byte) (s : State) :
    Leaves (fun t => t.attractions = s.attractions) (row.body p args s) := by
  cases row <;> try cases h
  all_goals
    simp only [Row.body, statusBody, ackEventsBody, setEventsBody, readClockBody, setClockBody, selectBody,
      readPostingBody, readChangedBody, readWindowsBody, readPassBody, readAttractionBody, bindBody, unbindBody,
      inquireBody, boardSetBody, boardSetClearBody, boardOverrideBody, unknownBody]
    repeat' split
  all_goals
    simp only [leaves_reject, leaves_accept, bindEntry_attractions, markDirty_attractions]
  all_goals rfl

/-! ## The frame pair and CLEAR_DAY -/

theorem Attraction.Lawful.buildFor {r : Attraction} (h : r.Lawful) (opens : Bool) (now o z : Nat) :
    (buildFor opens now o z r).Lawful := by
  by_cases hr : r.state = .unused
  · rw [buildFor_unused hr]
    exact h
  · rw [buildFor_inUse hr]
    exact h.inUse hr ⟨rfl, rfl, rfl, rfl, rfl⟩

theorem State.Lawful.confirm {s : State} (h : s.Lawful) (o z : Nat) : (confirm o z s).Lawful := fun a => by
  rw [confirm_att]
  exact ((h a).buildFor ..).withOffer _

theorem State.Lawful.emptyBook {s : State} (h : s.Lawful) : (emptyBook s).Lawful := fun a => by
  rw [emptyBook_att]
  exact (h a).same ⟨rfl, rfl, rfl, rfl, rfl⟩ (by rintro e; rw [e]; rfl)

theorem State.Lawful.writeOpen {s : State} (h : s.Lawful) (o : Nat) : (writeOpen o s).Lawful := by
  unfold Machine.writeOpen
  split
  · exact (State.Lawful.emptyBook (s := { s with openMinute := some o, closeMinute := none, day := .half }) h).same
      (raiseAll_attractions ..)
  · exact h.same (raiseAll_attractions ..)
  all_goals exact h

theorem State.Lawful.writeClose {s : State} (h : s.Lawful) (z : Nat) : (writeClose z s).Lawful := by
  unfold Machine.writeClose
  split
  · exact (State.Lawful.emptyBook (s := { s with openMinute := none, closeMinute := some z, day := .half }) h).same
      (raiseAll_attractions ..)
  · exact h.same (raiseAll_attractions ..)
  all_goals exact h

theorem State.Lawful.moveClose {s : State} (h : s.Lawful) (z : Nat) : (moveClose z s).Lawful := by
  by_cases hz : z = s.z
  · rw [moveClose_same hz]
    exact h
  · rw [moveClose_move hz]
    refine State.Lawful.same (s := resizedDay z s) (fun a => ?_) (raiseWindow_attractions ..)
    rw [resizedDay_att]
    exact ((h a).withWindows _).withOffer _

theorem State.Lawful.clearDay {s : State} (h : s.Lawful) : (clearDay s).Lawful := fun a => by
  have he : { s.att a with windows := none, offer := none }.Lawful := (emptyBook_att s a) ▸ h.emptyBook a
  rw [clearDay_att, clearRecord_eq]
  split
  · next hr => exact he.idle (by rcases hr with hr | hr <;> simp [show (s.att a).state = _ from hr]) (.inl rfl) rfl rfl rfl
  · exact he

/-- The rows of the clock and the frame keep every record's law. -/
theorem frame_body_lawful {s : State} (h : s.Lawful) (p : PortNo) (args : List Byte) :
    Leaves State.Lawful (frameOpenBody p args s) ∧ Leaves State.Lawful (frameCloseBody p args s) ∧
      Leaves State.Lawful (clearDayBody p args s) := by
  unfold frameOpenBody frameCloseBody clearDayBody
  simp only []
  refine ⟨?_, ?_, ?_⟩ <;> repeat' split
  all_goals simp only [leaves_reject, leaves_accept, h.confirm, h.writeOpen, h.writeClose, h.moveClose, h.clearDay]

/-! ## CONFIGURE and RELEASE -/

/-- A new record carries a descriptor that CONFIGURE has checked (R20, R21, R23). -/
theorem State.Lawful.configureNew {s : State} (h : s.Lawful) {a : AttrNo} {d : Descriptor}
    (hu : (s.att a).state = .unused) (hd : d.inRange = true ∧ d.combines = true) : (configureNew a d s).Lawful := by
  have hr := (h a).unused hu
  have ht : (s.updAtt a fun r => { r with
      state := .closed, desc := d, generation := 0, q := 0, m := 0, riders := 0, windows := firstList s d }).Lawful := by
    refine h.updAtt ?_
    rw [hr]
    exact {
      used := fun _ => hd
      unused := fun hn => nomatch hn
      limit := Nat.zero_le _
      aged := fun hn => nomatch hn
      fresh := fun hn => nomatch hn
      posted := fun hn => nomatch hn }
  unfold Machine.configureNew
  simp only []
  refine State.Lawful.same ?_ (raiseAll_attractions ..)
  split
  · exact ht.same (raiseWindow_attractions ..)
  · exact ht

/-- The records after a CONFIGURE of a record in use: reconfigured, and computed at once while OPERATING (R24, R26). -/
theorem configureUsed_attractions (a : AttrNo) (d : Descriptor) (s : State) :
    (configureUsed a d s).attractions =
      (if (s.att a).state = .operating then
        recomputeOffer a ((s.updAtt a (reconfigured s d)).updAtt a (immediate s.o s.now))
        else s.updAtt a (reconfigured s d)).attractions := by
  unfold configureUsed
  simp only []
  split <;> rfl

/-- A record in use takes a checked descriptor, its age counter cut to the new limit, and posts its target at once while
OPERATING (R24, R26). -/
theorem State.Lawful.configureUsed {s : State} (h : s.Lawful) {a : AttrNo} {d : Descriptor}
    (hu : (s.att a).state ≠ .unused) (hd : d.inRange = true ∧ d.combines = true) : (configureUsed a d s).Lawful := by
  have haged : (s.att a).aged = true → min (s.att a).ageCounter d.ageLimit = 0 := fun ha => by
    rw [(h a).aged ha, Nat.zero_min]
  refine State.Lawful.same ?_ (configureUsed_attractions a d s)
  split
  · next ho =>
    refine State.Lawful.recomputeOffer (fun b => ?_) a
    simp only [att_updAtt]
    split
    · simp only [if_true]
      exact immediate_lawful _ _ ho hd (Nat.min_le_right ..) haged fun ha =>
        Nat.le_min.mpr ⟨(h a).fresh ho ha, Nat.le_of_succ_le (ageLimit_of_inRange hd.1)⟩
    · exact h b
  · next ho =>
    exact h.updAtt {
      used := fun _ => hd
      unused := fun hn => absurd hn hu
      limit := Nat.min_le_right ..
      aged := haged
      fresh := fun hn => absurd hn ho
      posted := fun hn => absurd hn ho }

theorem configureBody_lawful {s : State} (h : s.Lawful) (p : PortNo) (args : List Byte) :
    Leaves State.Lawful (configureBody p args s) := by
  unfold configureBody
  simp only []
  split
  · split
    · next a d _ _ =>
      split
      · trivial
      · next hin =>
        split
        · trivial
        · next hco =>
          have hd : d.inRange = true ∧ d.combines = true := by simpa using And.intro hin hco
          split
          · next hu => exact h.configureNew hu hd
          · next hu =>
            split
            · trivial
            · exact h.configureUsed hu hd
    · trivial
  · trivial

theorem State.Lawful.releaseEffect {s : State} (h : s.Lawful) (a : AttrNo) : (releaseEffect a s).Lawful :=
  State.Lawful.same (h.updAtt (a := a) (f := fun _ => .unused) Attraction.lawful_unused) rfl

/-! ## SET_STATE -/

/-- An opening and a recovering ride load the age counter and clear the aged flag (R32, R34). -/
theorem State.Lawful.toOperating {s : State} (h : s.Lawful) {a : AttrNo} (hu : (s.att a).state ≠ .unused)
    {setUp : Attraction → Attraction} (hs : setUp = opening ∨ setUp = recovering) : (toOperating setUp a s).Lawful := by
  have hd := (h a).used hu
  have hl := Nat.le_of_succ_le (ageLimit_of_inRange hd.1)
  refine State.Lawful.same (State.Lawful.recomputeOffer (h.updAtt ?_) a) (raiseAll_attractions ..)
  rcases hs with rfl | rfl <;>
    exact immediate_lawful _ _ rfl hd (Nat.le_refl _) (fun hn => nomatch hn) fun _ => hl

theorem State.Lawful.toDown {s : State} (h : s.Lawful) {a : AttrNo} (hu : (s.att a).state ≠ .unused) :
    (toDown a s).Lawful := by
  have hw := h.changeWindows a slipWindow
  refine State.Lawful.same (hw.updAtt ?_) (raiseAll_attractions ..)
  exact (hw a).idle (by rwa [changeWindows_att, if_pos rfl]) (.inr rfl) rfl rfl rfl

theorem voidWindows_att (a b : AttrNo) (s : State) :
    (voidWindows a s).att b =
      if b = a then { s.att a with windows := (s.att a).windows.map (List.map (voidWindow s.now)) } else s.att b :=
  changeWindows_att ..

theorem State.Lawful.toClosed {s : State} (h : s.Lawful) {a : AttrNo} (hu : (s.att a).state ≠ .unused) :
    (toClosed a s).Lawful := by
  have hw : (voidWindows a s).Lawful := State.Lawful.changeWindows (h.same (retag_attractions ..)) a _
  refine State.Lawful.same (hw.updAtt ?_) (raiseAll_attractions ..)
  exact (hw a).idle (by rwa [voidWindows_att, if_pos rfl]) (.inl rfl) rfl rfl rfl

/-- The rows of the attraction table keep every record's law. -/
theorem table_body_lawful {s : State} (h : s.Lawful) (p : PortNo) (args : List Byte) :
    Leaves State.Lawful (releaseBody p args s) ∧ Leaves State.Lawful (setStateOperatingBody p args s) ∧
      Leaves State.Lawful (setStateDownBody p args s) ∧ Leaves State.Lawful (setStateClosedBody p args s) := by
  have used : ∀ {a st}, (s.att a).state = st → st ≠ .unused → (s.att a).state ≠ .unused := fun he hn => he ▸ hn
  unfold releaseBody setStateOperatingBody setStateDownBody setStateClosedBody
  refine ⟨?_, ?_, ?_, ?_⟩ <;> repeat' split
  all_goals simp only [leaves_reject, leaves_accept, h, h.releaseEffect]
  · next hs _ => exact h.toOperating (used hs (by simp)) (.inl rfl)
  · next hs => exact h.toOperating (used hs (by simp)) (.inr rfl)
  · next hs => exact h.toDown (used hs (by simp))
  · next hs => exact h.toClosed (used hs (by simp))
  · next hs => exact h.toClosed (used hs (by simp))

/-! ## Counts and passes -/

theorem Attraction.Lawful.updWindow {r : Attraction} (h : r.Lawful) (w : Nat) (f : Window → Window) :
    (r.updWindow w f).Lawful := h.withWindows _

theorem issueInto_lawful {s : State} (h : s.Lawful) (p : PortNo) (a : AttrNo) (w n : Nat) :
    Leaves State.Lawful (issueInto p a w n s) := by
  unfold issueInto
  split
  · trivial
  · next t id he =>
    obtain ⟨i, rest, -, -, ht⟩ := allocate_eq_some he
    have hl : t.Lawful := h.same (by rw [ht])
    exact (hl.updAtt ((hl a).updWindow ..)).recomputeOffer a

theorem State.Lawful.redeemEffect {s : State} (h : s.Lawful) (id : Nat) {r : Pass}
    (hs : (s.att r.attraction).state = .operating) : (redeemEffect id r s).Lawful :=
  State.Lawful.updAtt (h.same (setPass_attractions ..))
    ((h r.attraction).inUse (by simp [hs]) ⟨rfl, rfl, rfl, rfl, rfl⟩)

theorem State.Lawful.cancelEffect {s : State} (h : s.Lawful) (id : Nat) (r : Pass) : (cancelEffect id r s).Lawful :=
  State.Lawful.recomputeOffer
    (State.Lawful.updAtt (h.same (freeSlot_attractions ..)) ((h r.attraction).updWindow ..)) r.attraction

/-- The rows of the counts keep every record's law. -/
theorem count_body_lawful {s : State} (h : s.Lawful) (p : PortNo) (args : List Byte) :
    Leaves State.Lawful (entryReportBody p args s) ∧ Leaves State.Lawful (dispatchReportBody p args s) ∧
      Leaves State.Lawful (queueSetBody p args s) := by
  unfold entryReportBody dispatchReportBody queueSetBody
  simp only []
  refine ⟨?_, ?_, ?_⟩ <;> repeat' split
  all_goals simp only [leaves_reject, leaves_accept]
  · exact h.updAtt ((h _).applyEntry _)
  · exact h.updAtt ((h _).applyDispatch _)
  · next hu _ => exact h.updAtt ((h _).inUse hu ⟨rfl, rfl, rfl, rfl, rfl⟩)

/-- The rows of the passes keep every record's law. -/
theorem pass_body_lawful {s : State} (h : s.Lawful) (p : PortNo) (args : List Byte) :
    Leaves State.Lawful (issueEarliestBody p args s) ∧ Leaves State.Lawful (issueAtBody p args s) ∧
      Leaves State.Lawful (redeemBody p args s) ∧ Leaves State.Lawful (cancelBody p args s) := by
  unfold issueEarliestBody issueAtBody redeemBody cancelBody
  simp only []
  refine ⟨?_, ?_, ?_, ?_⟩ <;> repeat' split
  all_goals simp only [leaves_reject, leaves_accept, leaves_error, issueInto_lawful h]
  · next hs _ =>
    exact h.redeemEffect _ (not_not.mp hs)
  · exact h.cancelEffect _ _

theorem body_lawful {s : State} (h : s.Lawful) (row : Row) (p : PortNo) (args : List Byte) :
    Leaves State.Lawful (row.body p args s) := by
  by_cases hw : row.writesRecords = true
  · obtain ⟨frameOpen, frameClose, clearDay⟩ := frame_body_lawful h p args
    obtain ⟨release, operating, down, closed⟩ := table_body_lawful h p args
    obtain ⟨entry, dispatch, queueSet⟩ := count_body_lawful h p args
    obtain ⟨earliest, at_, redeem, cancel⟩ := pass_body_lawful h p args
    have configure := configureBody_lawful h p args
    cases row <;> try cases hw
    all_goals assumption
  · exact (body_attractions (by simpa using hw) p args s).mono fun _ => h.same

theorem powerOn_lawful (straps : Straps) : (State.powerOn straps).Lawful := fun a => by
  rw [powerOn_att]
  exact Attraction.lawful_unused

/-- Every part of an event keeps every record's law. -/
theorem lawful_kept : Kept State.Lawful where
  queue _ _ h := h
  settle _ h := h.same (settle_attractions _)
  port _ _ _ h := h
  powerOn straps _ _ := (powerOn_lawful straps).same rfl
  lineReset _ _ h := h
  tick _ h := h.secondTick
  sample levels _ h := h.sampleLines levels
  scan _ h := h.same (raiseScan_attractions _)
  start s h := h.same (startFrame_attractions s)
  body row p args _ h := body_lawful h row p args

end Sys2Proof.Machine

namespace Sys2Proof.Proofs

open Sys2Proof.Machine

/-- Settles O57: the three laws together say one thing of each record, which every part of an event keeps. -/
theorem postedKept : Obligations.PostedKept := fun s t hr ha hp hx =>
  (lawful_iff t).mp (lawful_kept.step ((lawful_iff s).mpr ⟨hr, ha, hp⟩) hx)

end Sys2Proof.Proofs
end

section
/-! PROOFS. SET_STATE: what its three rows hand over, and how an accepted request of the attraction table carries it out
(R31 to R36). -/

namespace Sys2Proof.Machine

/-! ## From a row's body to what its command carries out -/

/-- A request that its row's body accepts carries out what the body hands over, where that leaves the postings, the board
list and the dirty set alone. -/
theorem Takes.carriesOut {row : Row} {s u : State} {p : PortNo} {args data : List Byte} {touched : List Part}
    {raised : PortNo → EventKind → Bool} {effect : State → Prop} (h : Takes row s p args)
    (hb : row.body p args s = accept u data) (hk : KeepsBut ([.attractions, .ports] ++ touched) s u)
    (ht : .postings ∉ touched ∧ .entries ∉ touched ∧ .dirty ∉ touched) (hp : ∀ q, (s.port q).OnlyFlags (u.port q))
    (hr : Raises s u raised) (he : effect ((settle u).withReply p (replyFrame row.kind ResultCode.done.value data))) :
    Carries (row.command p) s p row.kind data touched raised effect := by
  obtain ⟨hpostings, hentries, hdirty⟩ := ht
  refine carries_settle (h.exec hb) (hk .postings (by simp [hpostings])) (hk .dirty (by simp [hdirty]))
    (hk .entries (by simp [hentries])) hp hr (fun x hx => hk x fun hm => hx ?_) he
  simp only [List.mem_append, List.mem_cons] at hm ⊢
  tauto

/-- Outside the attractions, the ports and the pass table, nothing has changed. -/
theorem keepsBut_records {s u : State} (h : SameDay s u) (ho : u.postings = s.postings) (hl : u.lines = s.lines)
    (he : u.entries = s.entries) (hd : u.dirty = s.dirty) (hf : u.refresh = s.refresh) (hb : u.board = s.board)
    (hn : u.choice = s.choice) (hq : u.pending = s.pending) : KeepsBut [.attractions, .ports, .passes] s u := by
  intro x hx
  cases x with
  | clock => exact ⟨h.clock, h.clockSet, h.waiting⟩
  | frame => exact h.frame
  | postings => exact ho
  | lines => exact hl
  | entries => exact he
  | dirty => exact hd
  | refresh => exact hf
  | board => exact hb
  | choice => exact hn
  | pending => exact hq
  | passes => simp at hx
  | attractions => simp at hx
  | ports => simp at hx

theorem KeepsBut.withPasses {s u : State} (h : KeepsBut [.attractions, .ports, .passes] s u)
    (hp : Part.passes.same s u) : KeepsBut [.attractions, .ports] s u := fun x hx => by
  by_cases hx' : x = .passes
  · exact hx' ▸ hp
  · exact h x (by simpa [hx'] using hx)

/-- Settling and a reply leave the clock and the frame alone. -/
theorem SameDay.answered {s u : State} (h : SameDay s u) (p : PortNo) (reply : List Byte) :
    SameDay s ((settle u).withReply p reply) := h.trans ⟨Eq.refl _, Eq.refl _, Eq.refl _, Eq.refl _, Eq.refl _, Eq.refl _⟩

/-- An offer computed stands as the offer of the moment while the clock and the frame stand (R108). -/
theorem SameDay.offered {s t : State} (h : SameDay s t) (r : Attraction) :
    Machine.offerNow s r = Machine.offerNow t { r with offer := Machine.offerNow s r } :=
  (h.offerNow r).symm.trans (offerNow_congr (Eq.refl _) (Eq.refl _) (Eq.refl _) r _).symm

/-! ## The events of the attraction table -/

/-- WINDOW where a condition holds, at the ports whose shadow names an attraction, and no other event. -/
theorem raises_windowAt {s u : State} {a : AttrNo} {b : Bool}
    (h : ∀ q, u.port q = (s.port q).raiseIf .window (b && s.watches q a)) :
    Raises s u (windowAt s a b) ∧ ∀ q, (s.port q).OnlyFlags (u.port q) := by
  refine ⟨fun q k _ => ?_, fun q => h q ▸ Port.OnlyFlags.rfl.raiseIf _ _⟩
  rw [h, has_raiseIf]
  simp only [windowAt, Bool.and_assoc]

/-- ATTRACTION at every port, beside WINDOW at those whose shadow names an attraction. -/
theorem raises_attraction_window {s u : State} {a : AttrNo} {b : Bool}
    (h : ∀ q, u.port q = ((s.port q).raiseIf .window (b && s.watches q a)).raise .attraction) :
    Raises s u (both (everywhere .attraction) (windowAt s a b)) ∧ ∀ q, (s.port q).OnlyFlags (u.port q) := by
  refine ⟨fun q k _ => ?_, fun q => h q ▸ (Port.OnlyFlags.rfl.raiseIf _ _).raise _⟩
  rw [h, has_raise, has_raiseIf]
  simp only [both, everywhere, windowAt]
  ac_rfl

/-- ATTRACTION at every port, and no other event. -/
theorem raises_attraction {s u : State} (h : ∀ q, u.port q = (s.port q).raise .attraction) :
    Raises s u (everywhere .attraction) ∧ ∀ q, (s.port q).OnlyFlags (u.port q) :=
  ⟨fun q k _ => by rw [h, has_raise]; rfl, fun q => h q ▸ Port.onlyFlags_raise _ _⟩

/-! ## The row of a state wanted -/

/-- The state wanted names the row of a SET_STATE. -/
theorem names_setState (index : Byte) :
    (∀ wanted : Byte, wanted ≠ 1 → wanted ≠ 3 → Names .setStateOperating [index, wanted]) ∧
      Names .setStateDown [index, 3] ∧ Names .setStateClosed [index, 1] := by
  refine ⟨fun wanted h1 h3 request hk ha => ?_, fun request hk ha => ?_, fun request hk ha => ?_⟩ <;>
    rw [rowOf_setState hk, ha 1]
  · have hn : ∀ n : Nat, n < 256 → wanted ≠ byte n → wanted.toNat ≠ n := fun n hn hw he => hw (by rw [← he, byte_toNat])
    simp [hn 1 (by decide) h1, hn 3 (by decide) h3]
  · rfl
  · rfl

/-- A SET_STATE for OPERATING or DOWN, which an OPS or a RIDE port may send. -/
theorem takes_setState {row : Row} {s : State} {p : PortNo} {args : List Byte} (hs : Sent s p row.kind args)
    (hn : Names row args) (hr : (s.port p).role = .ops ∨ (s.port p).role = .ride)
    (hrow : row = .setStateOperating ∨ row = .setStateDown) : Takes row s p args where
  sent := hs
  names := hn
  known := by rcases hrow with rfl | rfl <;> simp
  permitted := by rcases hrow with rfl | rfl <;> rcases hr with hr | hr <;> simp [permits, hr]

/-! ## To OPERATING -/

theorem toOperating_att (setUp : Attraction → Attraction) (a b : AttrNo) (s : State) :
    (toOperating setUp a s).att b =
      if b = a then { immediate s.o s.now (setUp (s.att a)) with
        offer := offerNow s (immediate s.o s.now (setUp (s.att a))) }
      else s.att b := by
  unfold toOperating
  rw [raiseAll_att]
  split
  · next h =>
    subst h
    rw [recomputeOffer_att_self, att_updAtt_self]
    rfl
  · next h => rw [recomputeOffer_att_ne _ h, att_updAtt_ne _ _ h]

theorem toOperating_port (setUp : Attraction → Attraction) (a : AttrNo) (s : State) (q : PortNo) :
    (toOperating setUp a s).port q = (s.port q).raise .attraction := by
  rw [toOperating, raiseAll_port, recomputeOffer_port, port_updAtt]

theorem toOperating_sameDay (setUp : Attraction → Attraction) (a : AttrNo) (s : State) :
    SameDay s (toOperating setUp a s) := ⟨rfl, rfl, rfl, rfl, rfl, rfl⟩

theorem toOperating_keepsBut (setUp : Attraction → Attraction) (a : AttrNo) (s : State) :
    KeepsBut [.attractions, .ports] s (toOperating setUp a s) :=
  (keepsBut_records (toOperating_sameDay ..) rfl rfl rfl rfl rfl rfl rfl rfl).withPasses ⟨rfl, rfl⟩

/-- What a move to OPERATING hands over: the record set up, its target posted at once, its offer computed (R32, R34, R80). -/
theorem Takes.opens {row : Row} {s : State} {p : PortNo} {args data : List Byte} {a : AttrNo}
    {setUp : Attraction → Attraction} (h : Takes row s p args)
    (hb : row.body p args s = accept (toOperating setUp a s) data) :
    Carries (row.command p) s p row.kind data [] (everywhere .attraction) fun t =>
      OthersKept a s t ∧ (t.att a).posted = (t.att a).target ∧ (t.att a).offer = offerNow t (t.att a) ∧
        t.att a = withTarget s.o s.now
          { setUp (s.att a) with posted := (t.att a).posted, offer := (t.att a).offer } := by
  obtain ⟨hr, hp⟩ := raises_attraction (toOperating_port setUp a s)
  refine h.carriesOut hb (toOperating_keepsBut setUp a s) (by simp) hp hr ⟨fun b hb => ?_, ?_⟩
  · rw [withReply_att, settle_att, toOperating_att, if_neg hb]
  · rw [withReply_att, settle_att, toOperating_att, if_pos rfl]
    exact ⟨rfl, ((toOperating_sameDay setUp a s).answered ..).offered _, rfl⟩

/-! ## To DOWN -/

theorem slipWindow_eq :
    slipWindow = fun x => if x.state = .opened then { x with state := .slipped } else x := rfl

theorem slipWindow_moves (x : Window) : (slipWindow x).state ≠ x.state ↔ decide (x.state = .opened) = true := by
  rw [slipWindow]
  split
  · next h => simp [h]
  · next h => simp [h]

theorem toDown_att (a b : AttrNo) (s : State) :
    (toDown a s).att b =
      if b = a then { s.att a with
        state := .down, offer := none, windows := (s.att a).windows.map (List.map slipWindow) }
      else s.att b := by
  rw [toDown, raiseAll_att, att_updAtt]
  split
  · rw [changeWindows_att, if_pos rfl]
  · next h => rw [changeWindows_att, if_neg h]

/-- WINDOW goes with a slip where some window was OPEN (R33, R102). -/
theorem toDown_port (a : AttrNo) (s : State) (q : PortNo) :
    (toDown a s).port q =
      ((s.port q).raiseIf .window (((s.att a).list.any fun x => x.state = .opened) && s.watches q a)).raise
        .attraction := by
  rw [toDown, raiseAll_port, port_updAtt, changeWindows_port, statesDiffer_map slipWindow_moves]
  rfl

theorem toDown_keepsBut (a : AttrNo) (s : State) : KeepsBut [.attractions, .ports] s (toDown a s) := by
  refine (keepsBut_records (toDown_sameDay a s) ?_ ?_ ?_ ?_ ?_ ?_ ?_ ?_).withPasses ⟨?_, ?_⟩ <;> simp [toDown]

/-! ## To CLOSED -/

theorem voidWindow_eq (now : Nat) :
    voidWindow now = fun x => if x.state = .future ∨ x.state = .opened ∨ x.state = .slipped then
      { x with state := .void, endedAt := some now } else x := by
  funext x
  simp only [voidWindow, Window.live, Bool.or_eq_true, decide_eq_true_eq, or_assoc]

theorem live_iff (x : Window) : x.live = true ↔ x.state = .future ∨ x.state = .opened ∨ x.state = .slipped := by
  simp [Window.live, or_assoc]

theorem voidWindow_moves (now : Nat) (x : Window) : (voidWindow now x).state ≠ x.state ↔
    decide (x.state = .future ∨ x.state = .opened ∨ x.state = .slipped) = true := by
  rw [voidWindow_eq, decide_eq_true_eq]
  simp only []
  split
  · next h => rcases h with h | h | h <;> simp [h]
  · next h => simp [h]

theorem toClosed_att (a b : AttrNo) (s : State) :
    (toClosed a s).att b =
      if b = a then { s.att a with
        state := .closed, q := 0, m := 0, riders := 0, offer := none
        windows := (s.att a).windows.map (List.map (voidWindow s.now)) }
      else s.att b := by
  rw [toClosed, raiseAll_att, att_updAtt]
  split
  · rw [voidWindows_att, if_pos rfl]
  · next h => rw [voidWindows_att, if_neg h]

/-- WINDOW goes with a close where some window was live (R35, R102). -/
theorem toClosed_port (a : AttrNo) (s : State) (q : PortNo) :
    (toClosed a s).port q =
      ((s.port q).raiseIf .window (((s.att a).list.any fun x =>
        decide (x.state = .future ∨ x.state = .opened ∨ x.state = .slipped)) && s.watches q a)).raise .attraction := by
  rw [toClosed, raiseAll_port, port_updAtt, voidWindows, changeWindows_port, att_retag,
    statesDiffer_map (voidWindow_moves s.now)]
  rfl

theorem toClosed_keepsBut (a : AttrNo) (s : State) : KeepsBut [.attractions, .ports, .passes] s (toClosed a s) := by
  refine keepsBut_records (toClosed_sameDay a s) ?_ ?_ ?_ ?_ ?_ ?_ ?_ ?_ <;> simp [toClosed]

/-- An ISSUED pass is voided with its window (R127). -/
def voidsPass (s : State) (a : AttrNo) (r : Pass) : Bool :=
  r.attraction = a && (((s.att a).window r.window).map Window.live).getD false

theorem voidsPass_iff (s : State) (a : AttrNo) (r : Pass) :
    voidsPass s a r = true ↔ r.attraction = a ∧ ∃ x, (s.att a).window r.window = some x ∧
      (x.state = .future ∨ x.state = .opened ∨ x.state = .slipped) := by
  rw [voidsPass, Bool.and_eq_true, decide_eq_true_eq]
  cases (s.att a).window r.window with
  | none => simp
  | some x => simp [live_iff]

theorem toClosed_slot (a : AttrNo) (s : State) (i : SlotNo) :
    (toClosed a s).slots[i] = s.slots[i].retagIf (voidsPass s a) .voided := by
  have h : (toClosed a s).slots = (s.retag (voidsPass s a) .voided).slots := changeWindows_slots ..
  simp only [h]
  exact retag_slot ..

/-- A pass after a retagging (R126, R127). -/
theorem retagIf_pass {hit : Pass → Bool} {st : PassState} {x : Slot} {r : Pass} (h : x.pass = some r) :
    (x.retagIf hit st).pass = if r.state = .issued ∧ hit r = true then some { r with state := st } else some r := by
  unfold Slot.retagIf
  simp only [h]
  split <;> simp_all

end Sys2Proof.Machine

namespace Sys2Proof.Proofs

open Sys2Proof.Machine

/-- Settles O35: the checks in their order, and the record set up for an opening or a recovery. -/
theorem setStateOperating : Obligations.SetStateOperating := by
  refine ⟨fun s p index wanted hr hrole h1 h2 h3 => ?_, fun s p index hs hr hrole => ?_⟩
  · refine (takes_setState (row := .setStateOperating) hr ((names_setState index).1 wanted h1 h3) hrole
      (.inl rfl)).refuses ?_
    simp only [Row.body, setStateOperatingBody]
    split
    · rfl
    · rw [if_pos h2]
  have ht : Takes .setStateOperating s p [index, 2] :=
    takes_setState hr ((names_setState index).1 2 (by decide) (by decide)) hrole (.inl rfl)
  refine ⟨fun hi => ht.refuses (by simp [Row.body, setStateOperatingBody, attrOf_none hi]), ?_⟩
  rintro a rfl
  refine ⟨fun hu => ht.refuses ?_, fun hc hride => ht.refuses ?_, fun ho => ht.grants ?_ hs, ?_⟩
  · simp [Row.body, setStateOperatingBody, hu]
  · simp [Row.body, setStateOperatingBody, hc, hride]
  · simp [Row.body, setStateOperatingBody, ho]
  · rintro (⟨hc, hops⟩ | hd)
    · simp only [hc, if_true]
      exact ht.opens (setUp := opening) (by simp [Row.body, setStateOperatingBody, hc, hops])
    · simp only [hd, reduceCtorEq, if_false]
      exact ht.opens (setUp := recovering) (by simp [Row.body, setStateOperatingBody, hd])

/-- Settles O36: the checks in their order, and the OPEN windows slipped. -/
theorem setStateDown : Obligations.SetStateDown := by
  intro s p index hs hr hrole
  have ht : Takes .setStateDown s p [index, 3] := takes_setState hr (names_setState index).2.1 hrole (.inr rfl)
  refine ⟨fun hi => ht.refuses (by simp [Row.body, setStateDownBody, attrOf_none hi]), ?_⟩
  rintro a rfl
  refine ⟨fun hu => ht.refuses ?_, fun hc => ht.refuses ?_, fun hd => ht.grants ?_ hs, fun ho => ?_⟩
  · simp [Row.body, setStateDownBody, hu]
  · simp [Row.body, setStateDownBody, hc]
  · simp [Row.body, setStateDownBody, hd]
  obtain ⟨hraise, hports⟩ := raises_attraction_window (toDown_port a s)
  refine ht.carriesOut (by simp [Row.body, setStateDownBody, ho]) (toDown_keepsBut a s) (by simp) hports hraise ⟨fun b hb => ?_, ?_⟩
  · rw [withReply_att, settle_att, toDown_att, if_neg hb]
  · rw [withReply_att, settle_att, toDown_att, if_pos rfl, slipWindow_eq]

/-- Settles O37: the role and the checks in their order, the live windows voided and their ISSUED passes with them. -/
theorem setStateClosed : Obligations.SetStateClosed := by
  intro s p index hs hr
  have hnames := (names_setState index).2.2
  refine ⟨fun hrole => ?_, fun hrole => ?_⟩
  · rw [Refuses]
    exact congrArg _ (carryOut_notPermitted (row := .setStateClosed) _ hr hnames (by simp) (by simp [permits, hrole]))
  have ht : Takes .setStateClosed s p [index, 1] := ⟨hr, hnames, by simp, by simp [permits, hrole]⟩
  refine ⟨fun hi => ht.refuses (by simp [Row.body, setStateClosedBody, attrOf_none hi]), ?_⟩
  rintro a rfl
  refine ⟨fun hu => ht.refuses ?_, fun hc => ht.grants ?_ hs, fun hrun => ?_⟩
  · simp [Row.body, setStateClosedBody, hu]
  · simp [Row.body, setStateClosedBody, hc]
  have haccept : Row.setStateClosed.body p [byte a.val, 1] s = accept (toClosed a s) [1] := by
    rcases hrun with h | h <;> simp [Row.body, setStateClosedBody, h]
  have hlive : (fun x : Window => decide (x.state = .future ∨ x.state = .opened ∨ x.state = .slipped)) = fun x =>
      x.state = .future || x.state = .opened || x.state = .slipped := by
    funext x
    simp [Bool.or_assoc]
  obtain ⟨hraise, hports⟩ := raises_attraction_window (toClosed_port a s)
  rw [hlive] at hraise
  refine ht.carriesOut haccept (toClosed_keepsBut a s) (by simp) hports hraise
    ⟨fun b hb => ?_, ?_, ?_, fun i => ?_⟩
  · rw [withReply_att, settle_att, toClosed_att, if_neg hb]
  · rw [withReply_att, settle_att, toClosed_att, if_pos rfl, voidWindow_eq]
  · simp [toClosed]
  · rw [withReply_slots, settle_slots, toClosed_slot]
    refine ⟨retagIf_generation .., fun h => ?_, fun r h => ?_⟩
    · rw [← Option.not_isSome_iff_eq_none, retagIf_pass_isSome, h]
      simp
    · rw [retagIf_pass h]
      simp only [voidsPass_iff]
      exact ⟨fun hv => if_pos hv, fun hv => if_neg hv⟩

end Sys2Proof.Proofs
end

section
/-! PROOFS. CONFIGURE and RELEASE: the record written, the list built or kept, the events raised (R20 to R30, R104). -/

namespace Sys2Proof.Machine

/-- Settling and a reply move no role, period, shadow or mask of a port. -/
theorem answered_likeBefore (u : State) (p q : PortNo) (reply : List Byte) :
    (u.port q).LikeBefore (((settle u).withReply p reply).port q) := by
  obtain ⟨role, period, shadow, enable, level⟩ := withReply_likeBefore (settle u) p q reply
  exact ⟨role.trans (settle_port_role ..), period.trans (settle_port_period ..), shadow.trans (settle_port_shadow ..),
    enable.trans (settle_port_enable ..), level.trans (settle_port_level ..)⟩

/-- Settling and a reply touch the postings, the dirty set and the ports alone. -/
theorem KeepsBut.answered {touched : List Part} {s u : State} (h : KeepsBut touched s u)
    (ht : .postings ∈ touched ∧ .dirty ∈ touched ∧ .ports ∈ touched) (p : PortNo) (reply : List Byte) :
    KeepsBut touched s ((settle u).withReply p reply) := fun x hx => by
  obtain ⟨hpostings, hdirty, hports⟩ := ht
  cases x with
  | postings => exact absurd hpostings hx
  | dirty => exact absurd hdirty hx
  | ports => exact absurd hports hx
  | clock => exact h .clock hx
  | frame => exact h .frame hx
  | attractions => exact h .attractions hx
  | passes => exact h .passes hx
  | lines => exact h .lines hx
  | entries => exact h .entries hx
  | refresh => exact h .refresh hx
  | board => exact h .board hx
  | choice => exact h .choice hx
  | pending => exact h .pending hx

/-! ## RELEASE -/

theorem namesPass_iff (s : State) (a : AttrNo) :
    s.namesPass a = true ↔ ∃ (i : SlotNo) (r : Pass), s.slots[i].pass = some r ∧ r.attraction = a := by
  have hslot : ∀ x : Slot, (x.pass.map fun r => decide (r.attraction = a)).getD false = true ↔
      ∃ r, x.pass = some r ∧ r.attraction = a := fun x => by
    cases x.pass <;> simp
  simp only [State.namesPass, List.any_eq_true, hslot]
  constructor
  · rintro ⟨x, hx, hr⟩
    obtain ⟨i, hi, rfl⟩ := List.mem_iff_getElem.mp hx
    exact ⟨⟨i, by simpa using hi⟩, by simpa using hr⟩
  · rintro ⟨i, hr⟩
    exact ⟨s.slots[i], by simp, hr⟩

theorem unbindFrom_eq (a : AttrNo) (x : Line) :
    unbindFrom a x = if x.binding?.map (·.attraction) = some a then .unbound else x := by
  unfold unbindFrom
  cases x.binding? <;> simp

theorem releaseEffect_att (a b : AttrNo) (s : State) :
    (releaseEffect a s).att b = if b = a then .unused else s.att b := att_setAtt ..

theorem releaseEffect_line (a : AttrNo) (s : State) (l : LineNo) :
    (releaseEffect a s).lines[l] =
      if s.lines[l].binding?.map (·.attraction) = some a then .unbound else s.lines[l] := by
  have h : (releaseEffect a s).lines = mapV (unbindFrom a) s.lines := rfl
  simp only [h, Fin.getElem_fin, getElem_mapV, unbindFrom_eq]

theorem releaseEffect_port (a : AttrNo) (s : State) (q : PortNo) :
    (releaseEffect a s).port q = (dropShadow a (s.port q)).raise .attraction := by
  unfold releaseEffect
  rw [raiseAll_port, port_mapPorts]
  rfl

theorem releaseEffect_keepsBut (a : AttrNo) (s : State) :
    KeepsBut [.attractions, .postings, .dirty, .ports, .lines] s (releaseEffect a s) := by
  intro x hx
  cases x with
  | clock | frame => exact ⟨rfl, rfl, rfl⟩
  | passes => exact ⟨rfl, rfl⟩
  | entries | refresh | board | choice | pending => rfl
  | attractions | postings | dirty | ports | lines => simp at hx

/-- A port loses its shadow where it names the attraction released, and no other field (R30, R172). -/
theorem dropShadow_eq (a : AttrNo) (q : Port) :
    dropShadow a q = { q with shadow := if q.namesSome (· = a) then none else q.shadow } := by
  unfold dropShadow
  split <;> rfl

/-! ## CONFIGURE of an UNUSED record -/

theorem configureBody_badArgument {p : PortNo} {index : Byte} {fields : List Byte} {d : Descriptor} (s : State)
    (hd : readDescriptor fields = some d) (hi : 47 < index.toNat ∨ d.inRange = false) :
    configureBody p (index :: fields) s = reject .badArgument := by
  unfold configureBody
  simp only [hd]
  by_cases h : 47 < index.toNat
  · rw [attrOf_none h]
  · have hn : d.inRange = false := hi.resolve_left h
    cases attrOf index with
    | none => rfl
    | some a => exact if_pos (by simp [hn])

/-- What CONFIGURE does with a descriptor in range (R21 to R24). -/
theorem configureBody_inRange {p : PortNo} {a : AttrNo} {fields : List Byte} {d : Descriptor} (s : State)
    (hd : readDescriptor fields = some d) (hin : d.inRange = true) :
    configureBody p (byte a.val :: fields) s =
      if d.combines = false then reject .badCombination
      else if (s.att a).state = .unused then accept (configureNew a d s) [0]
      else if (s.att a).desc.length ≠ d.length ∧ s.started then reject .frameState
      else accept (configureUsed a d s) [byte ((configureUsed a d s).att a).generation] := by
  simp [configureBody, hd, hin]

/-- A list is built in ARMED and OPEN alone (R23, R89, R90). -/
theorem firstList_eq (s : State) (d : Descriptor) :
    firstList s d = if s.day = .armed ∨ s.day = .opened then
      some (if decide (s.day = .opened) then builtByTime s.now s.o s.z d false else builtList s.o s.z d) else none := by
  unfold firstList
  cases s.day <;> simp

theorem configureNew_att (a b : AttrNo) (d : Descriptor) (s : State) :
    (configureNew a d s).att b =
      if b = a then { s.att a with
        state := .closed, desc := d, generation := 0, q := 0, m := 0, riders := 0, windows := firstList s d }
      else s.att b := by
  unfold configureNew
  simp only [raiseAll_att]
  rw [← att_updAtt s a b fun r => { r with
    state := .closed, desc := d, generation := 0, q := 0, m := 0, riders := 0, windows := firstList s d }]
  split <;> rfl

theorem configureNew_port (a : AttrNo) (d : Descriptor) (s : State) (q : PortNo) :
    (configureNew a d s).port q =
      ((s.port q).raiseIf .window ((firstList s d).isSome && s.watches q a)).raise .attraction := by
  unfold configureNew
  simp only [raiseAll_port]
  cases (firstList s d).isSome
  · rfl
  · simp only [if_true, raiseWindow_port, port_updAtt, Bool.true_and]
    rfl

theorem configureNew_keepsBut (a : AttrNo) (d : Descriptor) (s : State) :
    KeepsBut [.attractions, .ports] s (configureNew a d s) := by
  refine (keepsBut_records (configureNew_sameDay a d s) ?_ ?_ ?_ ?_ ?_ ?_ ?_ ?_).withPasses ⟨?_, ?_⟩ <;>
    unfold configureNew <;> simp only [] <;> split <;> rfl

/-! ## CONFIGURE of a record in use -/

theorem rebuilds_iff (s : State) (r : Attraction) (d : Descriptor) :
    rebuilds s r d = (decide (r.desc.length ≠ d.length) && decide (s.day = .armed)) := by
  simp [rebuilds, bne, BEq.beq]

theorem configureUsed_att (a b : AttrNo) (d : Descriptor) (s : State) :
    (configureUsed a d s).att b =
      if b = a then
        if (s.att a).state = .operating then
          { immediate s.o s.now (reconfigured s d (s.att a)) with
            offer := offerNow s (immediate s.o s.now (reconfigured s d (s.att a))) }
        else reconfigured s d (s.att a)
      else s.att b := by
  rw [att_congr (configureUsed_attractions a d s)]
  by_cases ho : (s.att a).state = .operating <;> by_cases hb : b = a
  · subst hb
    simp only [ho, if_true, recomputeOffer_att_self, att_updAtt_self]
    rfl
  · simp only [ho, hb, if_true, if_false, recomputeOffer_att_ne _ hb, att_updAtt_ne _ _ hb]
  · subst hb
    simp only [ho, if_true, if_false, att_updAtt_self]
  · simp only [ho, hb, if_false, att_updAtt_ne _ _ hb]

theorem configureUsed_port (a : AttrNo) (d : Descriptor) (s : State) (q : PortNo) :
    (configureUsed a d s).port q = (s.port q).raiseIf .window (rebuilds s (s.att a) d && s.watches q a) := by
  unfold configureUsed
  simp only []
  have hport : ∀ (b : Bool) t, State.port (if b then raiseWindow (fun x => decide (x = a)) t else t) q =
      (t.port q).raiseIf .window (b && t.watches q a) := fun b t => by
    cases b
    · rfl
    · rw [if_pos rfl, raiseWindow_port]
      rfl
  rw [hport]
  split <;> rfl

theorem configureUsed_keepsBut (a : AttrNo) (d : Descriptor) (s : State) :
    KeepsBut [.attractions, .ports] s (configureUsed a d s) := by
  refine (keepsBut_records (configureUsed_sameDay a d s) ?_ ?_ ?_ ?_ ?_ ?_ ?_ ?_).withPasses ⟨?_, ?_⟩ <;>
    unfold configureUsed <;> simp only [] <;> split <;> split <;> rfl

end Sys2Proof.Machine

namespace Sys2Proof.Proofs

open Sys2Proof.Machine

/-- Settles O34: the checks in their order, the record, the lines and the shadows. -/
theorem release : Obligations.Release := by
  intro s p index hs hr hrole
  have ht : Takes .release s p [index] := takes_ops hr rfl hrole rfl
  refine ⟨fun hi => ht.refuses (by simp [Row.body, releaseBody, attrOf_none hi]), ?_⟩
  rintro a rfl
  refine ⟨fun hu => ht.refuses ?_, fun hrun => ht.refuses ?_, fun hc hp => ht.refuses ?_, fun hc hp => ?_⟩
  · simp [Row.body, releaseBody, hu]
  · rcases hrun with h | h <;> simp [Row.body, releaseBody, h]
  · simp [Row.body, releaseBody, hc, (namesPass_iff s a).mpr hp]
  have hfree : s.namesPass a = false := by
    rw [Bool.eq_false_iff, ne_eq, namesPass_iff]
    exact fun ⟨i, r, h, he⟩ => hp i r h he
  have hports : ∀ q, (releaseEffect a s).port q = _ := fun q => releaseEffect_port a s q
  simp only [dropShadow_eq] at hports
  refine ⟨_, ht.exec (t := releaseEffect a s) (data := []) (by simp [Row.body, releaseBody, hc, hfree]), ?_,
    fun b hb => ?_, Publishes.withReply ?_ p _, fun q k hk => ?_,
    (releaseEffect_keepsBut a s).answered (by simp) p _, releaseEffect_line a s, by rw [withReply_port_self]; rfl, fun q => ⟨fun hq => ?_, ?_⟩⟩
  · rw [withReply_att, settle_att, releaseEffect_att, if_pos rfl]
  · rw [withReply_att, settle_att, releaseEffect_att, if_neg hb]
  · exact publishes_settle rfl (fun q => by rw [hports]; rfl) rfl rfl
  · rw [withReply_has, settle_has_edge _ _ _ hk, hports, has_raise]
    rfl
  · rw [withReply_port, if_neg hq, settle_port_link, hports]
    rfl
  · obtain ⟨role, period, shadow, enable, level⟩ :=
      answered_likeBefore (releaseEffect a s) p q (replyFrame 0x15 ResultCode.done.value [])
    rw [hports] at role period shadow enable level
    exact ⟨shadow, role, period, enable, level⟩

/-- Settles O32: R20 and R21 read off the two tests, the checks in their order, and the record with its list. -/
theorem configureNew : Obligations.ConfigureNew := by
  refine ⟨fun d => ⟨inRange_iff d, combines_iff d⟩, fun s p index fields d hs hlaw hr hrole hd => ?_⟩
  have ht : Takes .configure s p (index :: fields) := takes_ops hr rfl hrole rfl
  refine ⟨fun hi => ht.refuses (configureBody_badArgument (p := p) s hd hi), ?_⟩
  rintro a rfl hin
  have hbody : Row.configure.body p (byte a.val :: fields) s = _ := configureBody_inRange (p := p) (a := a) s hd hin
  refine ⟨fun hco => ht.refuses (by rw [hbody, if_pos hco]), fun hco hu => ?_⟩
  have hsome : (firstList s d).isSome = (decide (s.day = .armed) || decide (s.day = .opened)) := by
    rw [firstList_eq]
    cases s.day <;> rfl
  have hport := configureNew_port a d s
  rw [hsome] at hport
  obtain ⟨hraise, hports⟩ := raises_attraction_window hport
  refine ht.carriesOut (by rw [hbody, if_neg (by simp [hco]), if_pos hu]) (configureNew_keepsBut a d s) (by simp) hports
    hraise ⟨fun b hb => ?_, ?_, fun hday => ?_, fun hday => ?_⟩
  · rw [withReply_att, settle_att, configureNew_att, if_neg hb]
  · rw [withReply_att, settle_att, configureNew_att, if_pos rfl, hlaw.unused a hu]
    rfl
  · rw [withReply_att, settle_att, configureNew_att, if_pos rfl, firstList_eq]
    rcases hday with h | h | h <;> simp [h]
  · refine ⟨_, ?_, built_spec (decide (s.day = .opened)) s.now s.o s.z d false⟩
    rw [withReply_att, settle_att, configureNew_att, if_pos rfl, firstList_eq, if_pos hday]

/-- Settles O33: the refusal of a new window length, the record reconfigured, and its wait posted at once while OPERATING. -/
theorem configureUsed : Obligations.ConfigureUsed := by
  intro s p fields d a hs hr hrole hd hin hco hu
  have ht : Takes .configure s p (byte a.val :: fields) := takes_ops hr rfl hrole rfl
  have hbody : Row.configure.body p (byte a.val :: fields) s = _ := configureBody_inRange (p := p) (a := a) s hd hin
  rw [if_neg (by simp [hco]), if_neg hu] at hbody
  have hgen : ((Machine.configureUsed a d s).att a).generation = ((s.att a).generation + 1) % 256 := by
    rw [configureUsed_att, if_pos rfl]
    split <;> rfl
  simp only [hgen, started_iff] at hbody
  refine ⟨fun hl hday => ht.refuses (by rw [hbody, if_pos ⟨hl, hday⟩]), fun hok => ?_⟩
  have hport := configureUsed_port a d s
  simp only [rebuilds_iff] at hport
  obtain ⟨hraise, hports⟩ := raises_windowAt hport
  have hwindows : ((Machine.configureUsed a d s).att a).windows = (reconfigured s d (s.att a)).windows := by
    rw [configureUsed_att, if_pos rfl]
    split <;> rfl
  refine ht.carriesOut (by rw [hbody, if_neg (by tauto)]) (configureUsed_keepsBut a d s) (by simp) hports hraise
    ⟨fun b hb => ?_, fun q x hx ha hg => ?_, fun hl hday => ?_, fun hkeep => ?_, fun hn => ?_, fun ho => ?_⟩
  · rw [withReply_att, settle_att, configureUsed_att, if_neg hb]
  · rw [((settled_settle _).withReply p _).stale q, staleAt, withReply_shadow, settle_port_shadow,
      (hports q).like.shadow, hx]
    simp only [withReply_att, settle_att, ha, hgen, hg, bne_iff_ne, ne_eq]
    omega
  · rw [withReply_att, settle_att, hwindows, reconfigured, rebuilds_iff]
    exact ⟨_, if_pos (by simp [hl, hday]), built_spec false s.now s.o s.z d false⟩
  · rw [withReply_att, settle_att, hwindows, reconfigured, rebuilds_iff]
    exact if_neg (by simpa using hkeep)
  · rw [withReply_att, settle_att, configureUsed_att, if_pos rfl, if_neg hn]
    rfl
  · rw [withReply_att, settle_att, configureUsed_att, if_pos rfl, if_pos ho]
    exact ⟨rfl, ((configureUsed_sameDay a d s).answered ..).offered _, rfl⟩

end Sys2Proof.Proofs
end

section
/-! PROOFS. Counts: the split of a dispatch, DISPATCH_REPORT, and the one count that a sample of the sixteen lines brings
(R43 to R45, R53, R57 to R59). -/

namespace Sys2Proof.Machine

/-! ## Entries and dispatches -/

theorem applyEntry_eq (n : Nat) (r : Attraction) :
    applyEntry n r = if r.state = .operating ∨ r.state = .down then { r with q := min 65535 (r.q + n) } else r := by
  unfold applyEntry
  split <;> simp_all [satAdd]

/-- The merge part of a dispatch takes no more than its riders, with the merge share in range (R20, R44). -/
theorem mergePart_le {r : Attraction} (n : Nat) (hg : r.desc.mergeShare ≤ 100) : mergePart n r ≤ n := by
  have h : n * r.desc.mergeShare / 100 ≤ n := Nat.div_le_of_le_mul (by
    rw [Nat.mul_comm 100]
    exact Nat.mul_le_mul_left n hg)
  exact (Nat.min_le_right ..).trans h

/-- A dispatch splits its riders as R44 says: what Q lacks of the standby part comes out of M. -/
theorem dispatch_dispatched {r : Attraction} (n : Nat) (hg : r.desc.mergeShare ≤ 100) : Dispatched n r (dispatch n r) := by
  refine ⟨mergePart n r, standbyPart n r, rfl, Nat.sub_add_cancel (mergePart_le n hg), ?_⟩
  have hq : (if standbyPart n r ≤ r.q then r.q - standbyPart n r else 0) = r.q - standbyPart n r := by
    split <;> omega
  have hm : (if standbyPart n r ≤ r.q then r.m - mergePart n r
      else r.m - mergePart n r - (standbyPart n r - r.q)) = mergeAfter n r := by
    unfold mergeAfter
    split <;> omega
  rw [hq, hm]
  rfl

/-- The riders of a line-counted dispatch are ceil(seats × fill / 100) (R59). -/
theorem lineRiders_spec (d : Descriptor) :
    d.seats * d.fill ≤ 100 * lineRiders d ∧ 100 * lineRiders d < d.seats * d.fill + 100 := by
  unfold lineRiders ceilDiv
  omega

theorem updAtt_keepsBut (s : State) (a : AttrNo) (f : Attraction → Attraction) :
    KeepsBut [.attractions, .ports] s (s.updAtt a f) :=
  (keepsBut_records (s := s) (u := s.updAtt a f) ⟨rfl, rfl, rfl, rfl, rfl, rfl⟩ rfl rfl rfl rfl rfl rfl rfl rfl).withPasses ⟨rfl, rfl⟩

theorem raises_nothing {s u : State} (h : u.ports = s.ports) : Raises s u nothing := fun q k _ => by
  rw [port_congr h, nothing, Bool.or_false]

/-! ## One line at one sample -/

theorem counts_iff (e : Edge) (level : Bool) : e.counts level = true ↔ CountingEdge e level := by
  cases e <;> simp [Edge.counts, CountingEdge]

/-- A sample that completes an ARMED line's candidate settles it at the new level (R53, R57). -/
theorem sampleLine_qualifies {b : Binding} {settled level : Bool} {candidate : Option Nat} (hl : level ≠ settled)
    (hq : b.qualify ≤ candidate.getD 0 + 1) :
    sampleLine level (.armed b settled candidate) = (.armed b level none, b.edge.counts level) := by
  simp [sampleLine, hl, hq]

/-- A line counts at a sample exactly where its candidate qualifies at a counting edge (R53, R57). -/
theorem sampleLine_counts (level : Bool) (x : Line) : (sampleLine level x).2 = true ↔ BringsCount x level := by
  cases x with
  | unbound => simp [sampleLine, BringsCount]
  | unarmed b n held =>
    simp only [sampleLine, BringsCount, reduceCtorEq, false_and, exists_false, iff_false]
    split <;> simp
  | armed b settled candidate =>
    have h : BringsCount (.armed b settled candidate) level ↔
        level ≠ settled ∧ b.qualify ≤ candidate.getD 0 + 1 ∧ CountingEdge b.edge level := by
      constructor
      · rintro ⟨b, settled, candidate, ⟨⟩, h⟩
        exact h
      · exact fun h => ⟨b, settled, candidate, rfl, h⟩
    rw [h]
    by_cases hl : level = settled
    · simp [sampleLine, hl]
    · by_cases hq : b.qualify ≤ candidate.getD 0 + 1
      · rw [sampleLine_qualifies hl hq, counts_iff]
        simp [hl, hq]
      · simp [sampleLine, hl, hq]

/-- A record after one count of a line's kind (R58, R59). -/
def Binding.count (b : Binding) (r : Attraction) : Attraction :=
  match b.kind with
  | .entry => applyEntry 1 r
  | .dispatch => applyDispatch (lineRiders r.desc) r

theorem applyCount_eq (b : Binding) (s : State) : applyCount b s = s.updAtt b.attraction b.count := by
  unfold applyCount Binding.count
  cases b.kind <;> rfl

/-- A line that brings no count changes by itself alone. -/
theorem lineWork_quiet {levels : Levels} {l : LineNo} {s : State} (h : ¬ BringsCount s.lines[l] levels[l]) :
    lineWork levels l s = s.setLine l (sampleLine levels[l] s.lines[l]).1 := by
  rw [← sampleLine_counts] at h
  unfold lineWork
  simp only [h]
  split <;> rfl

/-- A line whose candidate qualifies settles, and brings its count at a counting edge. -/
theorem lineWork_qualifies {levels : Levels} {l : LineNo} {s : State} {b : Binding} {settled : Bool}
    {candidate : Option Nat} (h : s.lines[l] = .armed b settled candidate) (hl : levels[l] ≠ settled)
    (hq : b.qualify ≤ candidate.getD 0 + 1) :
    lineWork levels l s =
      (s.setLine l (.armed b levels[l] none)).updAtt b.attraction
        (if b.edge.counts levels[l] then b.count else id) := by
  simp only [lineWork, h, sampleLine_qualifies hl hq, Line.binding?, applyCount_eq]
  cases b.edge.counts levels[l]
  · exact (updAtt_self rfl).symm
  · rfl

/-! ## The sixteen lines one after another -/

/-- One line's sample as an event: its work, settled (R50, R53). -/
def sampleEvent (levels : Levels) (s : State) (l : LineNo) : State := settle (lineWork levels l s)

/-- The lines in the order that the choice gives them (log 6). -/
def lineOrder (s : State) : List LineNo :=
  orderBy (fun l : LineNo => Config.lineRank s.choice l) (List.finRange Config.lines)

theorem sampleLines_eq (levels : Levels) (s : State) :
    sampleLines levels s = (lineOrder s).foldl (sampleEvent levels) { s with choice := s.choice + 1 } := rfl

/-- Every line stands in the order once. -/
theorem lineOrder_split (s : State) (l : LineNo) :
    ∃ before behind, lineOrder s = before ++ l :: behind ∧ before.Nodup ∧ behind.Nodup ∧ l ∉ before ∧ l ∉ behind ∧
      ∀ x ∈ behind, x ∉ before := by
  have hp : (lineOrder s).Perm (List.finRange Config.lines) := orderBy_perm ..
  have hn : (lineOrder s).Nodup := hp.nodup_iff.mpr (List.nodup_finRange _)
  obtain ⟨before, behind, h⟩ := List.append_of_mem (hp.mem_iff.mpr (List.mem_finRange l))
  rw [h] at hn
  obtain ⟨hbefore, hlbehind, hdis⟩ := List.nodup_append.mp hn
  obtain ⟨hl, hbehind⟩ := List.nodup_cons.mp hlbehind
  exact ⟨before, behind, h, hbefore, hbehind, fun hb => hdis _ hb _ (by simp) rfl, hl,
    fun x hx hb => hdis _ hb _ (List.mem_cons_of_mem _ hx) rfl⟩

theorem line_setLine_self (s : State) (l : LineNo) (x : Line) : (s.setLine l x).lines[l] = x := by
  simp [State.setLine]

theorem line_setLine_ne (s : State) {l k : LineNo} (x : Line) (h : k ≠ l) : (s.setLine l x).lines[k] = s.lines[k] := by
  have : l.val ≠ k.val := fun e => h (Fin.ext e.symm)
  simp [State.setLine, Vector.getElem_set_ne, this]

/-- Lines that bring no count, each sampled once, change a settled part in those lines alone. -/
theorem sampleEvents_quiet {levels : Levels} {works : List LineNo} (hn : works.Nodup) {u : State} (hs : Settled u)
    (hq : ∀ x ∈ works, ¬ BringsCount u.lines[x] levels[x]) :
    ∃ v : Vector Line Config.lines, (∀ x : LineNo, x ∉ works → v[x] = u.lines[x]) ∧
      works.foldl (sampleEvent levels) u = { u with lines := v } := by
  induction works generalizing u with
  | nil => exact ⟨u.lines, fun _ _ => rfl, rfl⟩
  | cons l works ih =>
    obtain ⟨hl, hn⟩ := List.nodup_cons.mp hn
    obtain ⟨x, hx⟩ : ∃ x, lineWork levels l u = u.setLine l x := ⟨_, lineWork_quiet (hq l (by simp))⟩
    have hsettled : Settled (u.setLine l x) := hs.same rfl rfl rfl
    have hother : ∀ k : LineNo, k ≠ l → (u.setLine l x).lines[k] = u.lines[k] := fun k => line_setLine_ne u x
    obtain ⟨v, hv, hfold⟩ := ih hn hsettled fun k hk => by
      rw [hother k fun e => hl (e ▸ hk)]
      exact hq k (List.mem_cons_of_mem _ hk)
    refine ⟨v, fun k hk => ?_, ?_⟩
    · obtain ⟨hkl, hk⟩ := not_or.mp (List.mem_cons.not.mp hk)
      rw [hv k hk, hother k hkl]
    · rw [List.foldl_cons, sampleEvent, hx, settle_of_settled hsettled, hfold]
      rfl

/-- A sample at which a line's candidate qualifies, and at which no other line brings a count, is that line's work with
quiet lines around it: the line settles at the new level, and its attraction takes the count of a counting edge (R50,
R53). -/
theorem sampleLines_qualifies {levels : Levels} {l : LineNo} {s : State} {b : Binding} {settled : Bool}
    {candidate : Option Nat} (hs : Settled s) (h : s.lines[l] = .armed b settled candidate) (hl : levels[l] ≠ settled)
    (hq : b.qualify ≤ candidate.getD 0 + 1) (hquiet : ∀ x : LineNo, x ≠ l → ¬ BringsCount s.lines[x] levels[x]) :
    ∃ v : Vector Line Config.lines, v[l] = .armed b levels[l] none ∧
      sampleLines levels s = settle { s.updAtt b.attraction (if b.edge.counts levels[l] then b.count else id) with
        lines := v, choice := s.choice + 1 } := by
  obtain ⟨before, behind, ho, hbefore, hbehind, hlb, hlb', hdis⟩ := lineOrder_split s l
  have hstart : Settled { s with choice := s.choice + 1 } := hs.same rfl rfl rfl
  obtain ⟨v, hv, hfold⟩ := sampleEvents_quiet (levels := levels) hbefore hstart fun x hx =>
    hquiet x fun e => hlb (e ▸ hx)
  have hwork := lineWork_qualifies (s := { s with choice := s.choice + 1, lines := v }) ((hv l hlb).trans h) hl hq
  obtain ⟨v', hv', hfold'⟩ := sampleEvents_quiet (levels := levels) hbehind
    (settled_settle ((State.setLine { s with choice := s.choice + 1, lines := v } l (.armed b levels[l] none)).updAtt
      b.attraction (if b.edge.counts levels[l] then b.count else id))) fun x hx => by
    have hxl : x ≠ l := fun e => hlb' (e ▸ hx)
    rw [settle_lines, updAtt_lines, line_setLine_ne _ _ hxl]
    exact (hv x (hdis x hx)).symm ▸ hquiet x hxl
  refine ⟨v', ?_, ?_⟩
  · rw [hv' l hlb', settle_lines, updAtt_lines, line_setLine_self]
  · rw [sampleLines_eq, ho, List.foldl_append, hfold, List.foldl_cons, sampleEvent, hwork, hfold']
    rfl

theorem qualifiesAt_armed {b : Binding} {settled level : Bool} {candidate : Option Nat} (hl : level ≠ settled)
    (hq : b.qualify ≤ candidate.getD 0 + 1) : qualifiesAt level (.armed b settled candidate) = true := by
  simp [qualifiesAt, hl, hq]

theorem exec_qualifiedTransition {levels : Levels} {l : LineNo} {s : State}
    (h : qualifiesAt levels[l] s.lines[l] = true) :
    exec (.qualifiedTransition l levels) s = .next (sampleLines levels s) := by
  have he : exec (.qualifiedTransition l levels) s =
      .next (if qualifiesAt levels[l] s.lines[l] then sampleLines levels s else s) := rfl
  rw [he, if_pos h]

/-- One record's change, settled, beside lines and choices of order: what it publishes, and what it leaves alone. -/
theorem settle_updAtt_quiet (s : State) (a : AttrNo) (f : Attraction → Attraction) (v : Vector Line Config.lines)
    (n : Nat) :
    let t := settle { s.updAtt a f with lines := v, choice := n }
    OthersKept a s t ∧ Publishes s t ∧ Raises s t nothing ∧ PortsQuiet s t ∧
      KeepsBut [.lines, .choice, .attractions, .postings, .dirty, .ports] s t := by
  refine ⟨fun b hb => att_updAtt_ne s f hb, publishes_settle rfl (fun _ => rfl) rfl rfl, fun q k hk => ?_, fun q => ?_,
    fun x hx => ?_⟩
  · rw [settle_has_edge _ q k hk, nothing, Bool.or_false]
    rfl
  · exact ⟨settle_port_link _ q, settle_port_role _ q, settle_port_period _ q, settle_port_shadow _ q,
      settle_port_enable _ q, settle_port_level _ q⟩
  · cases x with
    | clock | frame => exact ⟨rfl, rfl, rfl⟩
    | passes => exact ⟨rfl, rfl⟩
    | entries | refresh | board | pending => rfl
    | lines | choice | attractions | postings | dirty | ports => simp at hx

end Sys2Proof.Machine

namespace Sys2Proof.Proofs

open Sys2Proof.Machine

/-- Settles O43: the checks in their order, and the dispatch of the clamped riders. -/
theorem dispatchReport : Obligations.DispatchReport := by
  intro s p index count hs hlaw hr
  have hnames : Names .dispatchReport [index, count] := names_alone rfl _
  refine ⟨fun hrole => ?_, fun hrole => ?_⟩
  · rw [Refuses]
    exact congrArg _ (carryOut_notPermitted (row := .dispatchReport) _ hr hnames (by simp) (by simp [permits, hrole]))
  have ht : Takes .dispatchReport s p [index, count] := ⟨hr, hnames, by simp, by simp [permits, hrole]⟩
  refine ⟨fun hi => ht.refuses (by simp [Row.body, dispatchReportBody, attrOf_none hi]), ?_⟩
  rintro a rfl
  refine ⟨fun hu => ht.refuses (by simp [Row.body, dispatchReportBody, hu]), fun hidle => ht.grants ?_ hs, fun ho => ?_⟩
  · have hn : (s.att a).state ≠ .unused ∧ (s.att a).state ≠ .operating := by rcases hidle with h | h <;> simp [h]
    obtain ⟨hu, ho⟩ := hn
    have hkeep : s.updAtt a (applyDispatch 0) = s := updAtt_self (if_neg ho)
    have hzero : byte 0 = 0 := rfl
    simp [Row.body, dispatchReportBody, hu, ridersApplied, ho, hkeep, countBytes, hzero]
  · have hu : (s.att a).state ≠ .unused := by simp [ho]
    have hdispatch : ∀ n, applyDispatch n (s.att a) = dispatch n (s.att a) := fun n => if_pos ho
    refine ⟨_, _, rfl, dispatch_dispatched _ (mergeShare_of_inRange (hlaw.used a hu).1),
      ht.carriesOut (u := s.updAtt a (applyDispatch (min count.toNat (s.att a).desc.seats))) ?_ (updAtt_keepsBut s a _)
        (by simp) (fun _ => .rfl) (raises_nothing rfl) ⟨fun b hb => ?_, ?_⟩⟩
    · simp [Row.body, dispatchReportBody, ridersApplied, ho, hdispatch, countBytes]
    · rw [withReply_att, settle_att, att_updAtt_ne _ _ hb]
    · rw [withReply_att, settle_att, att_updAtt_self, hdispatch]

/-- Settles O13: the sample is the qualifying line's work, with quiet lines around it. -/
theorem qualifiedTransition : Obligations.QualifiedTransition := by
  intro levels s l b settled candidate hs hlaw h hl hq hquiet
  obtain ⟨v, hv, ht⟩ := sampleLines_qualifies hs h hl hq hquiet
  have hexec := exec_qualifiedTransition (show qualifiesAt levels[l] s.lines[l] = true from h ▸ qualifiesAt_armed hl hq)
  obtain ⟨hothers, hpublishes, hraises, hports, hkeeps⟩ := settle_updAtt_quiet s b.attraction
    (if b.edge.counts levels[l] then b.count else id) v (s.choice + 1)
  rw [← ht] at hothers hpublishes hraises hports hkeeps
  have hatt : (sampleLines levels s).att b.attraction =
      (if b.edge.counts levels[l] then b.count else id) (s.att b.attraction) := by
    rw [ht, settle_att]
    exact att_updAtt_self ..
  have hline : (sampleLines levels s).lines[l] = .armed b levels[l] none := by
    simp only [ht, settle_lines]
    exact hv
  refine ⟨_, hexec, rfl, hline, hothers, hpublishes, hraises, hports, hkeeps, fun hn => ?_, fun hc hk => ?_,
    fun hc hk => ?_⟩
  · rw [hatt, if_neg (by rwa [counts_iff])]
    rfl
  · rw [hatt, if_pos ((counts_iff _ _).mpr hc), Binding.count, hk]
    exact applyEntry_eq 1 _
  · have hcount : (sampleLines levels s).att b.attraction =
        applyDispatch (lineRiders (s.att b.attraction).desc) (s.att b.attraction) := by
      rw [hatt, if_pos ((counts_iff _ _).mpr hc), Binding.count, hk]
    rw [hcount]
    refine ⟨fun ho => ?_, fun hn => if_neg hn⟩
    have hu : (s.att b.attraction).state ≠ .unused := by simp [ho]
    obtain ⟨hle, hlt⟩ := lineRiders_spec (s.att b.attraction).desc
    rw [applyDispatch, if_pos ho]
    exact ⟨_, hle, hlt, dispatch_dispatched _ (mergeShare_of_inRange (hlaw.used _ hu).1)⟩

end Sys2Proof.Proofs
end

section
/-! PROOFS. The state after power-on meets every invariant (R19, R40, R41, R112, R116, R133, R152, R174). -/

namespace Sys2Proof.Machine

theorem powerOn_has (straps : Straps) (q : PortNo) (k : EventKind) : ((State.powerOn straps).port q).has k = false := by
  rw [powerOn_port]
  exact inMask_zero k

theorem powerOn_slot (straps : Straps) (i : SlotNo) : (State.powerOn straps).slots[i] = ⟨0, none⟩ := by
  simp [State.powerOn]

theorem powerOn_freeQueue (straps : Straps) : (State.powerOn straps).freeQueue = List.finRange Config.slots := by
  simp [State.powerOn]

theorem powerOn_window (straps : Straps) (a : AttrNo) (w : Nat) : ((State.powerOn straps).att a).window w = none := by
  rw [powerOn_att]
  rfl

/-- No shadow, no aged attraction and no change waits after power-on, and every posting is that of an UNUSED record (R133,
R174). -/
theorem powerOn_settled (straps : Straps) : Settled (State.powerOn straps) where
  postings a := by
    rw [powerOn_att]
    simp [State.powerOn, postingOf, Attraction.unused]
  stale q := by
    rw [powerOn_has, powerOn_port]
    rfl
  aged q := by
    rw [powerOn_has, eq_comm, Bool.eq_false_iff, ne_eq, anyAged_iff]
    rintro ⟨a, hs, -⟩
    rw [powerOn_att] at hs
    cases hs
  posting q := by
    rw [powerOn_has, powerOn_port, eq_comm, Bool.eq_false_iff, ne_eq, nonEmpty_iff]
    simp [Port.fresh]

theorem powerOn_countsLaw (straps : Straps) : CountsLaw (State.powerOn straps) where
  q a := by rw [powerOn_att]; exact Nat.zero_le _
  m a := by rw [powerOn_att]; exact Nat.zero_le _
  riders a := by rw [powerOn_att]; exact Nat.zero_le _
  zero a _ := by rw [powerOn_att]; exact ⟨rfl, rfl, rfl⟩

/-- No entry is valid after power-on (R145). -/
theorem powerOn_boardLaw (straps : Straps) : BoardLaw (State.powerOn straps) where
  dirty e h := by simp [State.powerOn] at h
  idle _ := by
    rw [Bool.eq_false_iff, ne_eq, State.anyValid, List.any_eq_true]
    rintro ⟨x, hx, hv⟩
    obtain rfl := (Vector.mem_replicate.mp (Vector.mem_toList_iff.mp hx)).2
    cases hv

/-- The frame is UNSET after power-on: no list, no window, every slot free (R88, R112). -/
theorem powerOn_bookSound (straps : Straps) : BookSound (State.powerOn straps) where
  lists := {
    armed := fun h => by rcases h with h | h <;> cases h
    empty := fun _ a => by rw [powerOn_att]; rfl
    unused := fun a _ => by rw [powerOn_att]; rfl
    length := fun h => by rcases h with h | h <;> cases h }
  windows := {
    arrived := fun a w x h => by rw [powerOn_window] at h; cases h
    ended := fun a w x h => by rw [powerOn_window] at h; cases h }
  queue := {
    once := by
      rw [powerOn_freeQueue]
      exact List.nodup_finRange _
    free := fun i => by
      rw [powerOn_slot, powerOn_freeQueue]
      exact iff_of_true (List.mem_finRange i) rfl }
  table _ i := by rw [powerOn_slot]
  passes i r h := by rw [powerOn_slot] at h; cases h
  bookings a w x h := by rw [powerOn_window] at h; cases h

end Sys2Proof.Machine

namespace Sys2Proof.Proofs

open Sys2Proof.Machine

/-- Settles O53: the invariants hold of the state after power-on under any strapping. -/
theorem invariantsAtReset : Obligations.InvariantsAtReset := by
  obtain ⟨records, age, posted⟩ := (lawful_iff _).mp (powerOn_lawful resetStraps)
  exact ⟨powerOn_settled _, powerOn_countsLaw _, records, posted, age, powerOn_boardLaw _,
    fun q _ => powerOn_has resetStraps q .scan,
    (FrameLaw.powerOn resetStraps 0 []).same ⟨rfl, rfl, rfl, rfl, rfl, rfl⟩, powerOn_bookSound _⟩

end Sys2Proof.Proofs
end

section
/-! PROOFS. The counts of one record, and that every step keeps them in range, and 0 where the attraction is CLOSED or
UNUSED (R40, R48). -/

namespace Sys2Proof.Machine

/-! ## One record -/

/-- What the law of the counts says of one record (R40, R48). -/
structure Attraction.Counted (r : Attraction) : Prop where
  q : r.q ≤ 65535
  m : r.m ≤ 65535
  riders : r.riders ≤ 4095
  zero : r.state = .closed ∨ r.state = .unused → r.q = 0 ∧ r.m = 0 ∧ r.riders = 0

/-- The law says this of every record. -/
def State.Counted (s : State) : Prop := ∀ a, (s.att a).Counted

theorem counted_iff (s : State) : s.Counted ↔ CountsLaw s :=
  ⟨fun h => ⟨fun a => (h a).q, fun a => (h a).m, fun a => (h a).riders, fun a => (h a).zero⟩,
    fun h a => ⟨h.q a, h.m a, h.riders a, h.zero a⟩⟩

/-- What the law of a record's counts rests on: its state and the three counts. -/
def Attraction.counts (r : Attraction) : RideState × Nat × Nat × Nat := (r.state, r.q, r.m, r.riders)

theorem Attraction.Counted.same {r x : Attraction} (h : r.Counted) (k : x.counts = r.counts) : x.Counted := by
  obtain ⟨hs, hq, hm, hr⟩ := by simpa only [Attraction.counts, Prod.mk.injEq] using k
  exact ⟨hq ▸ h.q, hm ▸ h.m, hr ▸ h.riders, by rw [hs, hq, hm, hr]; exact h.zero⟩

/-- Counts in range are all that an attraction needs that is OPERATING or DOWN. -/
theorem Attraction.Counted.running {x : Attraction} (hs : x.state = .operating ∨ x.state = .down) (hq : x.q ≤ 65535)
    (hm : x.m ≤ 65535) (hr : x.riders ≤ 4095) : x.Counted where
  q := hq
  m := hm
  riders := hr
  zero hn := by rcases hs with hs | hs <;> simp [hs] at hn

/-- Counts of 0 keep the law in any state. -/
theorem Attraction.Counted.zeroed {x : Attraction} (hq : x.q = 0) (hm : x.m = 0) (hr : x.riders = 0) : x.Counted where
  q := hq ▸ Nat.zero_le _
  m := hm ▸ Nat.zero_le _
  riders := hr ▸ Nat.zero_le _
  zero _ := ⟨hq, hm, hr⟩

/-! ## What changes the counts of a record -/

/-- An entry raises Q up to its top, while OPERATING or DOWN alone (R40, R42). -/
theorem Attraction.Counted.applyEntry {r : Attraction} (h : r.Counted) (n : Nat) : (applyEntry n r).Counted := by
  rw [applyEntry_eq]
  split
  · next hs => exact .running hs (Nat.min_le_left ..) h.m h.riders
  · exact h

/-- A dispatch lowers Q and M and raises R_min up to its top, while OPERATING alone (R40, R44). -/
theorem Attraction.Counted.applyDispatch {r : Attraction} (h : r.Counted) (n : Nat) : (applyDispatch n r).Counted := by
  unfold Machine.applyDispatch
  split
  · next hs =>
    exact .running (.inl hs) ((Nat.sub_le ..).trans h.q) (((Nat.sub_le ..).trans (Nat.sub_le ..)).trans h.m)
      (Nat.min_le_left ..)
  · exact h

theorem Attraction.Counted.count {r : Attraction} (h : r.Counted) (b : Binding) : (b.count r).Counted := by
  unfold Binding.count
  split
  · exact h.applyEntry 1
  · exact h.applyDispatch _

/-- The Estimator's work folds R_min away, and leaves Q, M and the state as they are (R64, R67). -/
theorem Attraction.Counted.estimate {r : Attraction} (h : r.Counted) (o now : Nat) : (estimate o now r).Counted := by
  have hzero : ∀ x : Attraction, x.counts = (r.state, r.q, r.m, 0) → x.Counted := fun x k => by
    have hr : { r with riders := 0 }.Counted := ⟨h.q, h.m, Nat.zero_le _, fun hs => by
      obtain ⟨hq, hm, -⟩ := h.zero hs
      exact ⟨hq, hm, rfl⟩⟩
    exact hr.same k
  unfold Machine.estimate
  split
  · split
    · exact h
    · split <;> exact hzero _ rfl
  · exact hzero _ rfl
  · exact h
  · exact h

/-- CLEAR_DAY zeroes the counts of what it closes (R15, R48). -/
theorem Attraction.Counted.clearRecord {r : Attraction} (h : r.Counted) : (clearRecord r).Counted := by
  rw [clearRecord_eq]
  split
  · exact .zeroed rfl rfl rfl
  · exact h

/-! ## Every record -/

/-- The law stands where no record's state or counts change. -/
theorem State.Counted.same {s t : State} (h : s.Counted) (k : ∀ a, (t.att a).counts = (s.att a).counts) : t.Counted :=
  fun a => (h a).same (k a)

theorem State.Counted.sameRecords {s t : State} (h : s.Counted) (k : t.attractions = s.attractions) : t.Counted :=
  h.same fun a => by rw [att_congr k]

/-- The law stands where one record changes, to one that keeps it. -/
theorem State.Counted.one {s t : State} (h : s.Counted) {a : AttrNo} {r : Attraction}
    (k : ∀ b, t.att b = if b = a then r else s.att b) (hr : r.Counted) : t.Counted := fun b => by
  rw [k]
  split
  · exact hr
  · exact h b

theorem State.Counted.updAtt {s : State} (h : s.Counted) (a : AttrNo) {f : Attraction → Attraction}
    (hf : (f (s.att a)).Counted) : (s.updAtt a f).Counted := h.one (fun b => att_updAtt s a b f) hf

theorem State.Counted.recomputeOffer {s : State} (h : s.Counted) (a : AttrNo) : (recomputeOffer a s).Counted :=
  h.updAtt a ((h a).same rfl)

/-! ## The works of a tick, and a sample -/

theorem State.Counted.tickWork {s : State} (h : s.Counted) (m : Nat) (w : TickWork) : (tickWork m w s).Counted := by
  cases w with
  | frame =>
    refine h.same fun a => ?_
    obtain ⟨he, -⟩ | ⟨he, -⟩ | ⟨he, -⟩ := frameWork_cases m s <;> rw [Machine.tickWork, he]
    · rw [raiseAll_att, openFrameDay_att]
      rfl
    · rw [raiseAll_att, endFrame_att]
      rfl
  | estimator a =>
    have he := (h a).estimate s.o m
    refine fun b => ?_
    obtain hb | ⟨rfl, ⟨hb, -⟩ | hb⟩ := estimatorWork_att m a b s <;> rw [Machine.tickWork, hb]
    · exact h b
    · exact he
    · exact he.same rfl
  | book a =>
    obtain he | ⟨o, z, xs, he⟩ := bookWork_cases m a s <;> rw [Machine.tickWork, he]
    · exact h
    · exact (h.one (fun b => moveWindows_att m o z a b xs s) ((h a).same rfl)).recomputeOffer a

theorem State.Counted.secondTick {s : State} (h : s.Counted) : (secondTick s).Counted := by
  have hc : (clockTick s).Counted := h.sameRecords (clockTick_attractions s)
  unfold Machine.secondTick
  refine State.Counted.sameRecords ?_ (settle_attractions _)
  split
  · exact foldl_keeps (P := State.Counted) (fun _ w hb => (hb.tickWork _ w).sameRecords (settle_attractions _)) _ _ hc
  · exact hc

theorem State.Counted.lineWork {s : State} (h : s.Counted) (levels : Levels) (l : LineNo) :
    (lineWork levels l s).Counted := by
  unfold Machine.lineWork
  simp only [applyCount_eq]
  split
  · split
    · next b _ _ => exact State.Counted.updAtt (h.sameRecords (setLine_attractions ..)) _ ((h b.attraction).count b)
    · exact h
  · exact h

theorem State.Counted.sampleLines {s : State} (h : s.Counted) (levels : Levels) : (sampleLines levels s).Counted :=
  foldl_keeps (P := State.Counted) (fun _ l hb => (hb.lineWork levels l).sameRecords (settle_attractions _)) _ _ h

/-! ## The request rows that write a record -/

theorem buildFor_counts (opens : Bool) (now o z : Nat) (r : Attraction) : (buildFor opens now o z r).counts = r.counts := by
  unfold buildFor
  split <;> rfl

theorem confirm_counts (o z : Nat) (s : State) (a : AttrNo) : ((confirm o z s).att a).counts = (s.att a).counts := by
  rw [confirm_att]
  exact buildFor_counts ..

/-- A frame that falls back to HALF empties its book, and moves no count (R11). -/
theorem emptyBook_counts {s t : State} (h : t.attractions = s.attractions) (a : AttrNo) :
    ((raiseAll .frame (emptyBook t)).att a).counts = (s.att a).counts := by
  rw [raiseAll_att, emptyBook_att, att_congr h]
  rfl

theorem writeOpen_counts (o : Nat) (s : State) (a : AttrNo) : ((writeOpen o s).att a).counts = (s.att a).counts := by
  unfold writeOpen
  split
  · exact emptyBook_counts (by rfl) a
  all_goals rfl

theorem writeClose_counts (z : Nat) (s : State) (a : AttrNo) : ((writeClose z s).att a).counts = (s.att a).counts := by
  unfold writeClose
  split
  · exact emptyBook_counts (by rfl) a
  all_goals rfl

theorem moveClose_counts (z : Nat) (s : State) (a : AttrNo) : ((moveClose z s).att a).counts = (s.att a).counts := by
  by_cases hz : z = s.z
  · rw [moveClose_same hz]
  · rw [moveClose_move hz, raiseWindow_att, resizedDay_att]
    rfl

theorem State.Counted.clearDay {s : State} (h : s.Counted) : (clearDay s).Counted := fun a => by
  rw [clearDay_att]
  exact Attraction.Counted.clearRecord ((h a).same rfl)

theorem frame_body_counted {s : State} (h : s.Counted) (p : PortNo) (args : List Byte) :
    Leaves State.Counted (frameOpenBody p args s) ∧ Leaves State.Counted (frameCloseBody p args s) ∧
      Leaves State.Counted (clearDayBody p args s) := by
  have hconfirm : ∀ o z, (confirm o z s).Counted := fun o z => h.same (confirm_counts o z s)
  have hopen : ∀ o, (writeOpen o s).Counted := fun o => h.same (writeOpen_counts o s)
  have hclose : ∀ z, (writeClose z s).Counted := fun z => h.same (writeClose_counts z s)
  have hmove : ∀ z, (moveClose z s).Counted := fun z => h.same (moveClose_counts z s)
  unfold frameOpenBody frameCloseBody clearDayBody
  simp only []
  refine ⟨?_, ?_, ?_⟩ <;> repeat' split
  all_goals simp only [leaves_reject, leaves_accept, hconfirm, hopen, hclose, hmove, h.clearDay]

/-- A new record starts with counts of 0 (R23); a record in use keeps its state and its counts (R24). -/
theorem configureBody_counted {s : State} (h : s.Counted) (p : PortNo) (args : List Byte) :
    Leaves State.Counted (configureBody p args s) := by
  have hnew : ∀ a d, (configureNew a d s).Counted := fun a d =>
    h.one (fun b => configureNew_att a b d s) (.zeroed rfl rfl rfl)
  have hused : ∀ a d, (configureUsed a d s).Counted := fun a d =>
    h.one (fun b => configureUsed_att a b d s) ((h a).same (by split <;> rfl))
  unfold configureBody
  simp only []
  repeat' split
  all_goals simp only [leaves_reject, leaves_accept, hnew, hused]

/-- A ride that opens, recovers or goes DOWN keeps its counts; one that closes or is released has them zeroed (R30, R32 to
R35, R48). -/
theorem table_body_counted {s : State} (h : s.Counted) (p : PortNo) (args : List Byte) :
    Leaves State.Counted (releaseBody p args s) ∧ Leaves State.Counted (setStateOperatingBody p args s) ∧
      Leaves State.Counted (setStateDownBody p args s) ∧ Leaves State.Counted (setStateClosedBody p args s) := by
  have hrelease : ∀ a, (releaseEffect a s).Counted := fun a =>
    h.one (fun b => releaseEffect_att a b s) (.zeroed rfl rfl rfl)
  have hopening : ∀ a, (toOperating opening a s).Counted := fun a =>
    h.one (fun b => toOperating_att opening a b s) (.running (.inl rfl) (h a).q (h a).m (h a).riders)
  have hrecovering : ∀ a, (toOperating recovering a s).Counted := fun a =>
    h.one (fun b => toOperating_att recovering a b s) (.running (.inl rfl) (h a).q (h a).m (h a).riders)
  have hdown : ∀ a, (toDown a s).Counted := fun a =>
    h.one (fun b => toDown_att a b s) (.running (.inr rfl) (h a).q (h a).m (h a).riders)
  have hclosed : ∀ a, (toClosed a s).Counted := fun a => h.one (fun b => toClosed_att a b s) (.zeroed rfl rfl rfl)
  unfold releaseBody setStateOperatingBody setStateDownBody setStateClosedBody
  refine ⟨?_, ?_, ?_, ?_⟩ <;> repeat' split
  all_goals simp only [leaves_reject, leaves_accept, h, hrelease, hopening, hrecovering, hdown, hclosed]

/-- Two argument bytes carry no more than Q holds, and QUEUE_SET sets Q while OPERATING or DOWN alone (R46). -/
theorem count_body_counted {s : State} (h : s.Counted) (p : PortNo) (args : List Byte) :
    Leaves State.Counted (entryReportBody p args s) ∧ Leaves State.Counted (dispatchReportBody p args s) ∧
      Leaves State.Counted (queueSetBody p args s) := by
  have hset : ∀ a hi lo, (s.att a).state ≠ .unused → (s.att a).state ≠ .closed →
      (s.updAtt a fun r => { r with q := u16 hi lo }).Counted := fun a hi lo hu hc => by
    have hs : (s.att a).state = .operating ∨ (s.att a).state = .down := by
      cases hst : (s.att a).state <;> simp_all
    exact h.updAtt a (.running hs (u16_le hi lo) (h a).m (h a).riders)
  unfold entryReportBody dispatchReportBody queueSetBody
  simp only []
  refine ⟨?_, ?_, ?_⟩ <;> repeat' split
  all_goals simp only [leaves_reject, leaves_accept]
  · exact h.updAtt _ ((h _).applyEntry _)
  · exact h.updAtt _ ((h _).applyDispatch _)
  · next hu hc => exact hset _ _ _ hu hc

theorem issueInto_counted {s : State} (h : s.Counted) (p : PortNo) (a : AttrNo) (w n : Nat) :
    Leaves State.Counted (issueInto p a w n s) := by
  unfold issueInto
  split
  · trivial
  · next t id he =>
    obtain ⟨i, rest, -, -, ht⟩ := allocate_eq_some he
    have hl : t.Counted := h.sameRecords (by rw [ht])
    exact (hl.updAtt a ((hl a).same rfl)).recomputeOffer a

/-- A REDEEM raises M up to its top, while OPERATING alone; ISSUE and CANCEL move no count (R40, R120, R123, R124). -/
theorem pass_body_counted {s : State} (h : s.Counted) (p : PortNo) (args : List Byte) :
    Leaves State.Counted (issueEarliestBody p args s) ∧ Leaves State.Counted (issueAtBody p args s) ∧
      Leaves State.Counted (redeemBody p args s) ∧ Leaves State.Counted (cancelBody p args s) := by
  have hredeem : ∀ id (r : Pass), (s.att r.attraction).state = .operating → (redeemEffect id r s).Counted :=
    fun id r ho => State.Counted.updAtt (h.sameRecords (setPass_attractions ..)) _
      (.running (.inl ho) (h _).q (Nat.min_le_left ..) (h _).riders)
  have hcancel : ∀ id (r : Pass), (cancelEffect id r s).Counted := fun id r =>
    (State.Counted.updAtt (h.sameRecords (freeSlot_attractions ..)) r.attraction
      ((h r.attraction).same rfl)).recomputeOffer r.attraction
  unfold issueEarliestBody issueAtBody redeemBody cancelBody
  simp only []
  refine ⟨?_, ?_, ?_, ?_⟩ <;> repeat' split
  all_goals simp only [leaves_reject, leaves_accept, leaves_error, issueInto_counted h, hcancel]
  next ho _ => exact hredeem _ _ (not_not.mp ho)

theorem body_counted {s : State} (h : s.Counted) (row : Row) (p : PortNo) (args : List Byte) :
    Leaves State.Counted (row.body p args s) := by
  by_cases hw : row.writesRecords = true
  · obtain ⟨frameOpen, frameClose, clearDay⟩ := frame_body_counted h p args
    obtain ⟨release, operating, down, closed⟩ := table_body_counted h p args
    obtain ⟨entry, dispatch, queueSet⟩ := count_body_counted h p args
    obtain ⟨earliest, at_, redeem, cancel⟩ := pass_body_counted h p args
    have configure := configureBody_counted h p args
    cases row <;> try cases hw
    all_goals assumption
  · exact (body_attractions (by simpa using hw) p args s).mono fun _ => h.sameRecords

/-- Every part of an event keeps every record's counts. -/
theorem counted_kept : Kept State.Counted where
  queue _ _ h := h
  settle _ h := h.sameRecords (settle_attractions _)
  port _ _ _ h := h
  powerOn straps _ _ := ((counted_iff _).mpr (powerOn_countsLaw straps)).sameRecords rfl
  lineReset _ _ h := h
  tick _ h := h.secondTick
  sample levels _ h := h.sampleLines levels
  scan _ h := h.sameRecords (raiseScan_attractions _)
  start s h := h.sameRecords (startFrame_attractions s)
  body row p args _ h := body_counted h row p args

end Sys2Proof.Machine

namespace Sys2Proof.Proofs

open Sys2Proof.Machine

/-- Settles O55: the law says one thing of each record, which every part of an event keeps. -/
theorem countsKept : Obligations.CountsKept := fun s t h hx =>
  (counted_iff t).mp (counted_kept.step ((counted_iff s).mpr h) hx)

end Sys2Proof.Proofs
end

section
/-! PROOFS. The sample of the sixteen lines: what it does to each line, to the records and to the rest, in whatever order
the lines are taken, and the sample that arms a line (R50, R53, R56, R57). -/

namespace Sys2Proof.Machine

/-! ## Frames one after another -/

theorem Part.same_trans {x : Part} {s t u : State} (h : x.same s t) (k : x.same t u) : x.same s u := by
  cases x with
  | clock | frame =>
    obtain ⟨h1, h2, h3⟩ := h
    obtain ⟨k1, k2, k3⟩ := k
    exact ⟨k1.trans h1, k2.trans h2, k3.trans h3⟩
  | passes => exact ⟨k.1.trans h.1, k.2.trans h.2⟩
  | attractions | postings | lines | entries | dirty | refresh | board | ports | choice | pending => exact k.trans h

theorem KeepsBut.trans {touched : List Part} {s t u : State} (h : KeepsBut touched s t) (k : KeepsBut touched t u) :
    KeepsBut touched s u := fun x hx => Part.same_trans (h x hx) (k x hx)

theorem PortsQuiet.trans {s t u : State} (h : PortsQuiet s t) (k : PortsQuiet t u) : PortsQuiet s u := fun q => by
  obtain ⟨hlink, hlike⟩ := h q
  obtain ⟨klink, klike⟩ := k q
  exact ⟨klink.trans hlink, klike.role.trans hlike.role, klike.period.trans hlike.period,
    klike.shadow.trans hlike.shadow, klike.enable.trans hlike.enable, klike.level.trans hlike.level⟩

/-- Two events that raise nothing raise nothing together. -/
theorem Raises.quiet_trans {s t u : State} (h : Raises s t nothing) (k : Raises t u nothing) : Raises s u nothing :=
  fun q j hj => by rw [k q j hj, h q j hj, nothing, Bool.or_false]

/-- What a sample, in whatever order it takes the lines, does outside the lines and the records: no port moves but by its
level-type flags and its change set, no event is raised, and what follows from the records is settled. -/
structure Samples (s t : State) : Prop where
  keeps : KeepsBut [.lines, .choice, .attractions, .postings, .dirty, .ports] s t
  ports : PortsQuiet s t
  raises : Raises s t nothing
  settled : Settled t

theorem Samples.trans {s t u : State} (h : Samples s t) (k : Samples t u) : Samples s u :=
  ⟨h.keeps.trans k.keeps, h.ports.trans k.ports, h.raises.quiet_trans k.raises, k.settled⟩

/-! ## One line's work -/

/-- The work of a line is at most one record's change beside the lines. -/
theorem lineWork_eq (levels : Levels) (l : LineNo) (s : State) :
    ∃ a f, lineWork levels l s =
      { s.updAtt a f with lines := s.lines.set l (sampleLine levels[l] s.lines[l]).1, choice := s.choice } := by
  by_cases h : BringsCount s.lines[l] levels[l]
  · obtain ⟨b, settled, candidate, hb, hl, hq, -⟩ := h
    refine ⟨b.attraction, if b.edge.counts levels[l] then b.count else id, ?_⟩
    rw [lineWork_qualifies hb hl hq, hb, sampleLine_qualifies hl hq]
    rfl
  · refine ⟨0, id, ?_⟩
    rw [lineWork_quiet h, updAtt_self rfl]
    rfl

theorem lineWork_line_self (levels : Levels) (l : LineNo) (s : State) :
    (lineWork levels l s).lines[l] = (sampleLine levels[l] s.lines[l]).1 := by
  obtain ⟨a, f, h⟩ := lineWork_eq levels l s
  rw [h]
  exact line_setLine_self ..

theorem lineWork_line_ne (levels : Levels) {l k : LineNo} (s : State) (hk : k ≠ l) :
    (lineWork levels l s).lines[k] = s.lines[k] := by
  obtain ⟨a, f, h⟩ := lineWork_eq levels l s
  rw [h]
  exact line_setLine_ne _ _ hk

/-- The attractions that a line's count at a sample could reach: only that of its binding, where it brings one. -/
def CountsFor (levels : Levels) (s : State) (l : LineNo) (a : AttrNo) : Prop :=
  BringsCount s.lines[l] levels[l] ∧ s.lines[l].binding?.map (·.attraction) = some a

/-- A line brings its count to no other attraction (R57 to R59). -/
theorem lineWork_att {levels : Levels} {l : LineNo} {s : State} {a : AttrNo} (h : ¬ CountsFor levels s l a) :
    (lineWork levels l s).att a = s.att a := by
  by_cases hc : BringsCount s.lines[l] levels[l]
  · obtain ⟨b, settled, candidate, hb, hl, hq, -⟩ := id hc
    have hne : a ≠ b.attraction := fun e => h ⟨hc, by rw [hb, e]; rfl⟩
    rw [lineWork_qualifies hb hl hq, att_updAtt_ne _ _ hne, att_setLine]
  · rw [lineWork_quiet hc, att_setLine]

theorem sampleEvent_samples (levels : Levels) (s : State) (l : LineNo) : Samples s (sampleEvent levels s l) := by
  obtain ⟨a, f, h⟩ := lineWork_eq levels l s
  obtain ⟨-, -, hraises, hports, hkeeps⟩ := settle_updAtt_quiet s a f
    (s.lines.set l (sampleLine levels[l] s.lines[l]).1) s.choice
  rw [← h] at hraises hports hkeeps
  exact ⟨hkeeps, hports, hraises, settled_settle _⟩

/-! ## The sixteen lines -/

/-- Lines each sampled once move by their own inputs, and the other lines stay (R50, R53). -/
theorem sampleEvents_line {levels : Levels} {works : List LineNo} (hn : works.Nodup) (u : State) (l : LineNo) :
    (works.foldl (sampleEvent levels) u).lines[l] =
      if l ∈ works then (sampleLine levels[l] u.lines[l]).1 else u.lines[l] := by
  induction works generalizing u with
  | nil => rfl
  | cons k works ih =>
    obtain ⟨hk, hn⟩ := List.nodup_cons.mp hn
    rw [List.foldl_cons, ih hn, sampleEvent, settle_lines]
    by_cases hl : l = k
    · subst hl
      rw [if_neg hk, if_pos (by simp), lineWork_line_self]
    · simp only [lineWork_line_ne levels u hl, List.mem_cons, hl, false_or]

/-- Lines that bring no count for an attraction leave its record (R57 to R59). -/
theorem sampleEvents_att {levels : Levels} {works : List LineNo} (hn : works.Nodup) {u : State} {a : AttrNo}
    (h : ∀ l ∈ works, ¬ CountsFor levels u l a) : (works.foldl (sampleEvent levels) u).att a = u.att a := by
  induction works generalizing u with
  | nil => rfl
  | cons k works ih =>
    obtain ⟨hk, hn⟩ := List.nodup_cons.mp hn
    have hline : ∀ l ∈ works, (sampleEvent levels u k).lines[l] = u.lines[l] := fun l hl =>
      lineWork_line_ne levels u fun e => hk (e ▸ hl)
    rw [List.foldl_cons, ih hn fun l hl => ?_, sampleEvent, settle_att, lineWork_att (h k (by simp))]
    unfold CountsFor
    rw [hline l hl]
    exact h l (List.mem_cons_of_mem _ hl)

theorem nodup_lineOrder (s : State) : (lineOrder s).Nodup :=
  (orderBy_perm ..).nodup_iff.mpr (List.nodup_finRange _)

theorem mem_lineOrder (s : State) (l : LineNo) : l ∈ lineOrder s := (orderBy_perm ..).mem_iff.mpr (List.mem_finRange l)

/-- Every line moves by its own input, whatever the order (R50, R53; log 6). -/
theorem sampleLines_line (levels : Levels) (s : State) (l : LineNo) :
    (sampleLines levels s).lines[l] = (sampleLine levels[l] s.lines[l]).1 := by
  rw [sampleLines_eq, sampleEvents_line (nodup_lineOrder s), if_pos (mem_lineOrder s l)]

theorem sampleLines_att {levels : Levels} {s : State} {a : AttrNo} (h : ∀ l, ¬ CountsFor levels s l a) :
    (sampleLines levels s).att a = s.att a := by
  rw [sampleLines_eq]
  exact sampleEvents_att (nodup_lineOrder s) (u := { s with choice := s.choice + 1 }) fun l _ => h l

theorem sampleLines_samples (levels : Levels) {s : State} (hs : Settled s) : Samples s (sampleLines levels s) := by
  have hstart : Samples s { s with choice := s.choice + 1 } :=
    ⟨fun x hx => by cases x <;> simp [Part.same] at hx ⊢, fun q => ⟨rfl, .rfl⟩, raises_nothing rfl,
      hs.same rfl rfl rfl⟩
  exact foldl_keeps (P := Samples s) (fun u l h => h.trans (sampleEvent_samples levels u l)) _ _ hstart

/-- A sample at which no line brings a count changes the lines alone, the order counter of log 12 apart. -/
theorem sampleLines_quiet {levels : Levels} {s : State} (hs : Settled s)
    (hq : ∀ l : LineNo, ¬ BringsCount s.lines[l] levels[l]) : KeepsBut [.lines, .choice] s (sampleLines levels s) := by
  obtain ⟨v, -, h⟩ := sampleEvents_quiet (levels := levels) (nodup_lineOrder s)
    (u := { s with choice := s.choice + 1 }) (hs.same rfl rfl rfl) fun l _ => hq l
  rw [sampleLines_eq, h]
  exact fun x hx => by cases x <;> simp [Part.same] at hx ⊢

/-! ## Arming -/

/-- The run of samples that counts toward arming, edge by edge (R56). -/
theorem armingRun_eq (e : Edge) (count : Nat) (held level : Bool) :
    armingRun e count held level =
      match e with
      | .rising => if level then 0 else count + 1
      | .falling => if level then count + 1 else 0
      | .both => if count ≠ 0 ∧ level = held then count + 1 else 1 := by
  cases e <;> cases level <;> rfl

/-- An UNARMED line after a sample: it arms where its run is long enough, and counts the run where not (R56). -/
theorem sampleLine_unarmed (level : Bool) (b : Binding) (count : Nat) (held : Bool) :
    (sampleLine level (.unarmed b count held)).1 =
      if armingRun b.edge count held level = 0 then .unarmed b 0 false
      else if b.qualify ≤ armingRun b.edge count held level then .armed b level none
      else .unarmed b (armingRun b.edge count held level) level := by
  by_cases h0 : armingRun b.edge count held level = 0
  · simp [sampleLine, h0]
  · by_cases hq : b.qualify ≤ armingRun b.edge count held level <;> simp [sampleLine, h0, hq]

/-- An ARMED line after a sample: back at its settled level it drops its candidate, and away from it the candidate
qualifies or grows (R53). -/
theorem sampleLine_armed (level : Bool) (b : Binding) (settled : Bool) (candidate : Option Nat) :
    (sampleLine level (.armed b settled candidate)).1 =
      if level = settled then .armed b settled none
      else if b.qualify ≤ candidate.getD 0 + 1 then .armed b level none
      else .armed b settled (some (candidate.getD 0 + 1)) := by
  by_cases hl : level = settled
  · simp [sampleLine, hl]
  · by_cases hq : b.qualify ≤ candidate.getD 0 + 1 <;> simp [sampleLine, hl, hq]

/-- A run goes on at the inactive level of RISING and FALLING, and for BOTH at the level seen (R56). -/
theorem armingRun_goes_on {e : Edge} {count : Nat} {held level : Bool}
    (h : e = .rising ∧ level = false ∨ e = .falling ∧ level = true ∨ e = .both ∧ count ≠ 0 ∧ level = held) :
    armingRun e count held level = count + 1 := by
  rw [armingRun_eq]
  obtain ⟨rfl, rfl⟩ | ⟨rfl, rfl⟩ | ⟨rfl, hb⟩ := h
  · rfl
  · rfl
  · exact if_pos hb

/-- The sample that completes the run arms the line at the run's level, with no candidate (R56). -/
theorem sampleLine_arms {b : Binding} {count : Nat} {held level : Bool}
    (h : armingRun b.edge count held level = count + 1) (hq : b.qualify ≤ count + 1) :
    sampleLine level (.unarmed b count held) = (.armed b level none, false) := by
  simp [sampleLine, h, hq]

theorem armsAt_unarmed {b : Binding} {count : Nat} {held level : Bool}
    (h : armingRun b.edge count held level = count + 1) (hq : b.qualify ≤ count + 1) :
    armsAt level (.unarmed b count held) = true := by
  simp [armsAt, sampleLine_arms h hq]

theorem exec_lineArming {levels : Levels} {l : LineNo} {s : State} (h : armsAt levels[l] s.lines[l] = true) :
    exec (.lineArming l levels) s = .next (sampleLines levels s) := by
  have he : exec (.lineArming l levels) s = .next (if armsAt levels[l] s.lines[l] then sampleLines levels s else s) := rfl
  rw [he, if_pos h]

/-- Only an ARMED line brings a count (R56, R57). -/
theorem not_bringsCount_unarmed (b : Binding) (count : Nat) (held level : Bool) :
    ¬ BringsCount (.unarmed b count held) level := by
  rintro ⟨_, _, _, h, -⟩
  cases h

end Sys2Proof.Machine

namespace Sys2Proof.Proofs

open Sys2Proof.Machine

/-- Settles O12: each line's own work, and what the works together leave alone. -/
theorem millisecondSample : Obligations.MillisecondSample := by
  intro levels s hs
  obtain ⟨hkeeps, hports, hraises, hsettled⟩ := sampleLines_samples levels hs
  refine ⟨_, rfl, fun l => ?_, hkeeps, hports, hsettled, hraises, fun a h => sampleLines_att ?_, sampleLines_quiet hs⟩
  · have ht := sampleLines_line levels s l
    cases hl : s.lines[l] with
    | unbound => rw [ht, hl]; rfl
    | armed b settled candidate => rw [ht, hl]; exact sampleLine_armed ..
    | unarmed b count held =>
      have hx := sampleLine_unarmed levels[l] b count held
      rw [armingRun_eq] at hx
      rw [ht, hl]
      exact hx
  · rintro l ⟨hc, ha⟩
    obtain ⟨b, hb, hba⟩ := Option.map_eq_some_iff.mp ha
    exact h l hc b hb hba

/-- Settles O14: the sample that completes the run, with the line quiet among the others. -/
theorem lineArming : Obligations.LineArming := by
  intro levels s l b count held hs hl hq hlevel
  have hrun := armingRun_goes_on hlevel
  refine ⟨_, exec_lineArming (hl ▸ armsAt_unarmed hrun hq), rfl, ?_, fun hquiet => sampleLines_quiet hs fun x => ?_⟩
  · rw [sampleLines_line, hl, sampleLine_arms hrun hq]
  · by_cases hx : x = l
    · rw [hx, hl]
      exact not_bringsCount_unarmed _ _ _ _
    · exact hquiet x hx

end Sys2Proof.Proofs
end

section
/-! PROOFS. BIND_LINE, and the counts a master reports or corrects: ENTRY_REPORT and QUEUE_SET (R42, R46, R54, R55). -/

namespace Sys2Proof.Machine

/-! ## BIND_LINE -/

/-- A BIND_LINE falls under UNBIND or INQUIRE by its operation, and under BIND by any other. -/
theorem names_bindLine (line op a k e q : Byte) :
    Names (if op = 1 then .unbind else if op = 2 then .inquire else .bind) [line, op, a, k, e, q] := by
  have hn : ∀ n : Byte, some op.toNat = some n.toNat ↔ op = n := fun n => by
    rw [Option.some_inj, BitVec.toNat_inj]
  have hkind : Row.kind (if op = 1 then .unbind else if op = 2 then .inquire else .bind) = 0x17 := by
    split
    · rfl
    · split <;> rfl
  intro request hk ha
  rw [hkind] at hk
  rw [rowOf_bindLine hk, ha 1]
  exact if_congr (hn 1) rfl (if_congr (hn 2) rfl rfl)

/-- A BIND_LINE of an OPS port under the row that its operation names. -/
theorem takes_bindLine {row : Row} {s : State} {p : PortNo} {line op a k e q : Byte}
    (hs : Sent s p 0x17 [line, op, a, k, e, q]) (hr : (s.port p).role = .ops)
    (hrow : (if op = 1 then .unbind else if op = 2 then .inquire else .bind) = row) :
    Takes row s p [line, op, a, k, e, q] := by
  have hn := names_bindLine line op a k e q
  rw [hrow] at hn
  have hline : row = .unbind ∨ row = .inquire ∨ row = .bind := by
    rw [← hrow]
    split
    · exact .inl rfl
    · split
      · exact .inr (.inl rfl)
      · exact .inr (.inr rfl)
  obtain rfl | rfl | rfl := hline
  all_goals exact ⟨hs, hn, by simp, by rw [hr]; rfl⟩

/-- Qualify fields that select no time: 1, and those above 60 (R54). -/
theorem qualifyOf_none {b : Byte} (h : b = 1 ∨ 60 < b.toNat) : qualifyOf b = none := by
  obtain rfl | h := h
  · rfl
  · rw [qualifyOf, if_neg (by omega), if_neg (by omega)]

/-- The other qualify fields select their own time, and 0 the default (R54). -/
theorem qualifyOf_some {b : Byte} (h1 : b ≠ 1) (h : b.toNat ≤ 60) :
    qualifyOf b = some (if b = 0 then 20 else b.toNat) := by
  have hne : ∀ n : Byte, b ≠ n → b.toNat ≠ n.toNat := fun n hn he => hn (BitVec.eq_of_toNat_eq he)
  by_cases h0 : b = 0
  · subst h0
    rfl
  · have h0' : b.toNat ≠ 0 := hne 0 h0
    have h1' : b.toNat ≠ 1 := hne 1 h1
    rw [qualifyOf, if_neg h0', if_pos (by omega), if_neg h0]

/-- A BIND whose line, attraction, kind, edge or qualify field is out of range is refused with BAD_ARGUMENT (R54). -/
theorem bindBody_badArgument {p : PortNo} {line op attraction kind edge qualify : Byte} (s : State)
    (h : 15 < line.toNat ∨ 47 < attraction.toNat ∨ 1 < kind.toNat ∨ 2 < edge.toNat ∨ qualify = 1 ∨ 60 < qualify.toNat) :
    bindBody p [line, op, attraction, kind, edge, qualify] s = reject .badArgument := by
  simp only [bindBody]
  split
  · next hl ha hk he hq =>
    obtain h | h | h | h | h := h
    · rw [lineOf_none h] at hl; cases hl
    · rw [attrOf_none h] at ha; cases ha
    · rw [kindOf_none h] at hk; cases hk
    · rw [edgeOf_none h] at he; cases he
    · rw [qualifyOf_none h] at hq; cases hq
  · rfl

/-- An operation that is none of the three is refused, whatever the other fields are (R54, R184; log 7). -/
theorem bindBody_operation {p : PortNo} {line op attraction kind edge qualify : Byte} (s : State) (h : op ≠ 0) :
    bindBody p [line, op, attraction, kind, edge, qualify] s = reject .badArgument := by
  simp only [bindBody, ne_eq, h, not_false_eq_true, if_true]
  split <;> rfl

theorem Settled.setLine {s : State} (h : Settled s) (l : LineNo) (x : Line) : Settled (s.setLine l x) :=
  h.same rfl rfl rfl

/-- The reply of a line in each state (R185). -/
theorem lineReply_eq (l : LineNo) (x : Line) :
    lineReply l x =
      match x with
      | .unbound => [byte l.val, 0, 0, 0, 0, 0, 2]
      | .unarmed b _ _ =>
        [byte l.val, 1, byte b.attraction.val, byte b.kind.code, byte b.edge.code, byte b.qualify, 2]
      | .armed b settled _ =>
        [byte l.val, 2, byte b.attraction.val, byte b.kind.code, byte b.edge.code, byte b.qualify,
          if settled then 1 else 0] := by
  cases x with
  | unbound => rfl
  | unarmed b n level => rfl
  | armed b settled candidate => cases settled <;> rfl

/-! ## Reports and corrections -/

/-- A report or a correction of a port whose role may send it. -/
theorem takes_count {row : Row} {s : State} {p : PortNo} {args : List Byte} (hs : Sent s p row.kind args)
    (ha : row.alone = true) (hp : permits row (s.port p).role = true) : Takes row s p args :=
  ⟨hs, names_alone ha args, fun e => (by rw [e] at ha; cases ha), hp⟩

/-- A record with another Q shows the same posting (R133). -/
theorem Settled.withQ {s : State} (h : Settled s) (a : AttrNo) (q : Nat) :
    Settled (s.setAtt a { s.att a with q := q }) := h.setAtt a _ rfl rfl

end Sys2Proof.Machine

namespace Sys2Proof.Proofs

open Sys2Proof.Machine

/-- Settles O38: the ranges of the fields, the attraction's state, and the binding replaced. -/
theorem bind : Obligations.Bind := by
  intro s p line attraction kind edge qualify hs hsent hr
  have ht : Takes .bind s p [line, 0, attraction, kind, edge, qualify] := takes_bindLine hsent hr rfl
  refine ⟨fun h => ht.refuses (bindBody_badArgument (p := p) s h), ?_⟩
  rintro l a k e rfl rfl rfl rfl h1 h60
  have hq := qualifyOf_some h1 h60
  refine ⟨fun hu => ht.refuses ?_, fun hu => ⟨_, rfl, ht.grants ?_ (hs.setLine ..)⟩⟩
  · simp [Row.body, bindBody, hq, hu]
  · simp [Row.body, bindBody, hq, hu, lineReply_eq]

/-- Settles O39: the operation out of range, then UNBIND and INQUIRE on the line number alone. -/
theorem unbindAndInquire : Obligations.UnbindAndInquire := by
  refine ⟨?_, ?_, ?_⟩
  · intro s p line op a k e q hsent hr hop
    have hne : ∀ n : Byte, n.toNat ≤ 2 → op ≠ n := fun n hn he => by
      subst he
      omega
    have ht : Takes .bind s p [line, op, a, k, e, q] :=
      takes_bindLine hsent hr (by rw [if_neg (hne 1 (by decide)), if_neg (hne 2 (by decide))])
    exact ht.refuses (bindBody_operation (p := p) s (hne 0 (by decide)))
  · intro s p line a k e q hs hsent hr
    have ht : Takes .unbind s p [line, 1, a, k, e, q] := takes_bindLine hsent hr rfl
    refine ⟨fun h => ht.refuses (by simp [Row.body, unbindBody, lineOf_none h]), ?_⟩
    rintro l rfl
    exact ht.grants (by simp [Row.body, unbindBody, lineReply_eq]) (hs.setLine ..)
  · intro s p line a k e q hs hsent hr
    have ht : Takes .inquire s p [line, 2, a, k, e, q] := takes_bindLine hsent hr rfl
    refine ⟨fun h => ht.refuses (by simp [Row.body, inquireBody, lineOf_none h]), ?_⟩
    rintro l rfl
    have hbody : Row.inquire.body p [byte l.val, 2, a, k, e, q] s = accept s (lineReply l s.lines[l]) := by
      simp [Row.body, inquireBody]
    rw [lineReply_eq] at hbody
    exact ht.grants hbody hs

/-- Settles O42: the checks in their order, then the entry by the attraction's state. -/
theorem entryReport : Obligations.EntryReport := by
  intro s p index count hs hlaw hsent
  refine ⟨fun hrole => ?_, fun hrole => ?_⟩
  · rw [Refuses]
    exact congrArg _ (carryOut_notPermitted (row := .entryReport) _ hsent (names_alone rfl _) (by simp)
      (by simp [permits, hrole]))
  have ht : Takes .entryReport s p [index, count] := takes_count hsent rfl (by rw [hrole]; rfl)
  refine ⟨fun h => ht.refuses ?_, ?_⟩
  · obtain hi | hc := h
    · simp [Row.body, entryReportBody, attrOf_none hi]
    · cases hi : attrOf index <;> simp [Row.body, entryReportBody, hi, hc]
  rintro a rfl hc
  have hc' : ¬ 63 < count.toNat := Nat.not_lt.mpr hc
  refine ⟨fun hu => ht.refuses ?_, fun hrun => ht.grants ?_ (hs.withQ a _), fun hclosed => ht.grants ?_ hs⟩
  · simp [Row.body, entryReportBody, hc', hu]
  · have hu : (s.att a).state ≠ .unused := by rcases hrun with h | h <;> simp [h]
    have hentry : s.updAtt a (applyEntry count.toNat) =
        s.setAtt a { s.att a with q := min 65535 ((s.att a).q + count.toNat) } := by
      rw [State.updAtt, applyEntry_eq, if_pos hrun]
    simp [Row.body, entryReportBody, hc', hu, hentry, countBytes]
  · have hkeep : s.updAtt a (applyEntry count.toNat) = s := updAtt_self (by simp [applyEntry_eq, hclosed])
    obtain ⟨hq, hm, -⟩ := hlaw.zero a (.inl hclosed)
    have hzero : be16 0 = [0, 0] := rfl
    simp [Row.body, entryReportBody, hc', hclosed, hkeep, countBytes, hq, hm, hzero]

/-- Settles O44: the checks in their order, then Q replaced. -/
theorem queueSet : Obligations.QueueSet := by
  intro s p index hi lo hs hsent
  refine ⟨fun hrole => ?_, fun hrole => ?_⟩
  · rw [Refuses]
    exact congrArg _ (carryOut_notPermitted (row := .queueSet) _ hsent (names_alone rfl _) (by simp)
      (by rcases hrole with h | h <;> simp [permits, h]))
  have ht : Takes .queueSet s p [index, hi, lo] :=
    takes_count hsent rfl (by rcases hrole with h | h <;> simp [permits, h])
  refine ⟨fun h => ht.refuses (by simp [Row.body, queueSetBody, attrOf_none h]), ?_⟩
  rintro a rfl
  refine ⟨fun hu => ht.refuses (by simp [Row.body, queueSetBody, hu]),
    fun hc => ht.refuses (by simp [Row.body, queueSetBody, hc]), fun hrun => ?_⟩
  obtain ⟨hu, hc⟩ : (s.att a).state ≠ .unused ∧ (s.att a).state ≠ .closed := by rcases hrun with h | h <;> simp [h]
  have hbody : Row.queueSet.body p [byte a.val, hi, lo] s =
      accept (s.updAtt a fun r => { r with q := u16 hi lo }) ([hi, lo] ++ be16 (s.att a).m) := by
    simp [Row.body, queueSetBody, hu, hc, countBytes, be16_u16]
  exact ht.grants hbody (hs.withQ a _)

end Sys2Proof.Proofs
end

section
/-! PROOFS. The wait of one record: smoothing, the target and the Estimator's minute-tick work by the state of an attraction
(R64 to R79). -/

namespace Sys2Proof.Machine

/-! ## Rounding -/

/-- The adjustment of the smoothing is the rounding of R67. -/
theorem adjustment_rounds (d : Int) (k : Nat) : Rounds d k (adjustment d k) := by
  have hp : 0 < 2 ^ k := Nat.two_pow_pos k
  have hlow : 2 * 2 ^ k * ((2 * d.natAbs + 2 ^ k) / (2 * 2 ^ k)) ≤ 2 * d.natAbs + 2 ^ k := Nat.mul_div_le ..
  have hhigh := Nat.lt_mul_div_succ (2 * d.natAbs + 2 ^ k) (show 0 < 2 * 2 ^ k by omega)
  have hcast : ((2 ^ k : Nat) : Int) = 2 ^ k := by push_cast; rfl
  unfold Rounds adjustment
  simp only []
  generalize (2 * d.natAbs + 2 ^ k) / (2 * 2 ^ k) = n at *
  rw [← hcast]
  generalize 2 ^ k = p at *
  rw [Nat.mul_add, Nat.mul_assoc] at hhigh
  rw [Nat.mul_assoc] at hlow
  have hprod : (p : Int) * n = ((p * n : Nat) : Int) := by push_cast; rfl
  split
  · rw [Int.mul_neg, hprod, Int.natAbs_neg, Int.natAbs_natCast]
    omega
  · rw [hprod, Int.natAbs_natCast]
    omega

/-- Division rounded up is the least quotient whose multiple covers the dividend. -/
theorem ceilDiv_spec (a : Nat) {b : Nat} (hb : 0 < b) : a ≤ b * ceilDiv a b ∧ b * ceilDiv a b < a + b := by
  have hlow : b * ((a + b - 1) / b) ≤ a + b - 1 := Nat.mul_div_le ..
  have hhigh := Nat.lt_mul_div_succ (a + b - 1) hb
  rw [Nat.mul_add] at hhigh
  unfold ceilDiv
  omega

/-! ## The target -/

/-- U, window by window in ascending index (R74). -/
theorem guestsDue_eq (o now : Nat) (r : Attraction) :
    guestsDue o now r = ((List.range r.list.length).map fun w =>
      match r.window w with
      | some x => if (x.state = .future ∨ x.state = .opened ∨ x.state = .slipped) ∧
          o + w * r.desc.length ≤ now + r.desc.lookAhead then x.booked - x.arrived else 0
      | none => 0).sum := by
  unfold guestsDue
  congr 1
  refine List.ext_getElem (by simp) fun w hw _ => ?_
  have hx : r.window w = some (r.list[w]'(by simpa using hw)) := List.getElem?_eq_getElem _
  simp only [List.getElem_mapIdx, List.getElem_map, List.getElem_range, hx, dueIn, Bool.and_eq_true, live_iff,
    windowStart]
  exact if_congr (and_congr_right fun _ => decide_eq_true_iff) rfl rfl

/-! ## The Estimator's work by state -/

section
variable (o now : Nat) {r : Attraction}

/-- An AGED attraction's figures are held (R65). -/
theorem estimate_aged (hs : r.state = .operating) (ha : r.aged = true) : estimate o now r = r := by
  simp [estimate, hs, ha]

/-- The counter that runs out makes the attraction AGED, with its wait held (R70). -/
theorem estimate_ages (hs : r.state = .operating) (ha : r.aged = false) (hc : r.ageCounter ≤ 1) :
    estimate o now r = { smoothStage r with ageCounter := 0, aged := true } := by
  simp [estimate, hs, ha, hc]

/-- A counter that goes on lets the wait be computed and posted (R65). -/
theorem estimate_posts (hs : r.state = .operating) (ha : r.aged = false) (hc : 1 < r.ageCounter) :
    estimate o now r = postWait o now { smoothStage r with ageCounter := r.ageCounter - 1 } := by
  simp [estimate, hs, ha, Nat.not_le.mpr hc]

/-- R_min of an attraction that is DOWN is dropped (R66). -/
theorem estimate_down (hs : r.state = .down) : estimate o now r = { r with riders := 0 } := by
  simp [estimate, hs]

theorem estimate_idle (hs : r.state = .closed ∨ r.state = .unused) : estimate o now r = r := by
  rcases hs with hs | hs <;> simp [estimate, hs]

end

/-- The Estimator neither reads nor writes the offer (R64). -/
theorem estimate_withOffer (o now : Nat) (r : Attraction) (y : Option Nat) :
    estimate o now { r with offer := y } = { estimate o now r with offer := y } := by
  have hstate : r.state = .operating ∨ r.state = .down ∨ r.state = .closed ∨ r.state = .unused := by
    cases r.state <;> simp
  obtain hs | hs | hs := hstate
  · obtain ha | ha := Bool.eq_false_or_eq_true r.aged
    · rw [estimate_aged o now hs ha]
      exact estimate_aged o now hs ha
    · obtain hc | hc := Nat.lt_or_ge 1 r.ageCounter
      · rw [estimate_posts o now hs ha hc]
        exact estimate_posts o now hs ha hc
      · rw [estimate_ages o now hs ha hc]
        exact estimate_ages o now hs ha hc
  · rw [estimate_down o now hs]
    exact estimate_down o now hs
  · rw [estimate_idle o now hs]
    exact estimate_idle o now hs

/-- The Estimator leaves the generation and the counts Q and M of a record (R64). -/
theorem estimate_keeps (o now : Nat) (r : Attraction) :
    (estimate o now r).generation = r.generation ∧ (estimate o now r).q = r.q ∧ (estimate o now r).m = r.m := by
  unfold estimate
  split
  · split
    · exact ⟨rfl, rfl, rfl⟩
    · split <;> exact ⟨rfl, rfl, rfl⟩
  all_goals exact ⟨rfl, rfl, rfl⟩

end Sys2Proof.Machine

namespace Sys2Proof.Proofs

open Sys2Proof.Machine

/-- Settles O45: each stage of the computation is a rounded-up division, and its quotient is the witness. -/
theorem targetWait : Obligations.TargetWait := by
  intro o now r hfloor hstep
  have hv : 0 < max r.throughput (16 * r.desc.floorRate) := by omega
  obtain ⟨hdlow, hdhigh⟩ := ceilDiv_spec (guestsDue o now r * r.desc.showRate) (show 0 < 100 by decide)
  obtain ⟨hwlow, hwhigh⟩ := ceilDiv_spec (rawWait o now r + r.desc.walkOffset) hstep
  have hd : demand o now r - (r.q + r.m) = ceilDiv (guestsDue o now r * r.desc.showRate) 100 := Nat.add_sub_cancel_left ..
  have hw : roundedWait o now r = r.desc.step * ceilDiv (rawWait o now r + r.desc.walkOffset) r.desc.step :=
    Nat.mul_comm ..
  rw [← hd] at hdlow hdhigh
  rw [← hw] at hwlow hwhigh
  refine ⟨guestsDue o now r, demand o now r, _, rawWait o now r, roundedWait o now r, guestsDue_eq o now r,
    ⟨Nat.le_add_right .., hdlow, hdhigh⟩, rfl, ceilDiv_spec _ hv, ⟨⟨_, hw⟩, hwlow, hwhigh⟩, ?_, rfl⟩
  show min (roundedWait o now r) r.desc.maxPosted = _
  split <;> omega

end Sys2Proof.Proofs
end

section
/-! PROOFS. What the works of a minute tick, in any order, make of one attraction's record, and the aging tick (R2, R64, R70,
R75). -/

namespace Sys2Proof.Machine

/-! ## The works that leave a record's wait alone -/

/-- A record is as it was, its windows and its offer apart: all that the frame's and the Book's works may change (R2). -/
def Attraction.SameWait (r x : Attraction) : Prop := x = { r with windows := x.windows, offer := x.offer }

theorem Attraction.SameWait.rfl {r : Attraction} : r.SameWait r := Eq.refl _

theorem Attraction.SameWait.trans {r x y : Attraction} (h : r.SameWait x) (k : x.SameWait y) : r.SameWait y := by
  unfold SameWait at *
  rw [k, h]

/-- The Estimator reads no offer, so on a record whose wait stands it does what it does on the same list before. -/
theorem Attraction.SameWait.estimate {r x : Attraction} (h : r.SameWait x) (o now : Nat) :
    ∃ y, Machine.estimate o now x = { Machine.estimate o now { r with windows := x.windows } with offer := y } :=
  ⟨x.offer, (congrArg _ h).trans (estimate_withOffer o now { r with windows := x.windows } x.offer)⟩

/-- The Estimator's work gives its attraction the record of the Estimator, its offer apart (R64, R84). -/
theorem estimatorWork_att_self (m : Nat) (a : AttrNo) (s : State) :
    ∃ y, (estimatorWork m a s).att a = { estimate s.o m (s.att a) with offer := y } := by
  unfold estimatorWork
  simp only []
  split
  · exact ⟨_, att_updAtt_self ..⟩
  · rw [recomputeOffer_att_self, att_updAtt_self]
    exact ⟨_, rfl⟩

theorem estimatorWork_att_ne {m : Nat} {a b : AttrNo} (s : State) (h : b ≠ a) :
    (estimatorWork m a s).att b = s.att b := by
  obtain hb | ⟨hb, -⟩ := estimatorWork_att m a b s
  · exact hb
  · exact absurd hb h

theorem frameWork_sameWait (m : Nat) (s : State) (a : AttrNo) : (s.att a).SameWait ((frameWork m s).att a) := by
  obtain ⟨h, -⟩ | ⟨h, -⟩ | ⟨h, -⟩ := frameWork_cases m s <;> rw [h]
  · exact .rfl
  · rw [raiseAll_att, openFrameDay_att]
    rfl
  · rw [raiseAll_att, endFrame_att]
    rfl

theorem bookWork_sameWait (m : Nat) (a b : AttrNo) (s : State) : (s.att b).SameWait ((bookWork m a s).att b) := by
  obtain h | ⟨o, z, xs, h⟩ := bookWork_cases m a s <;> rw [h]
  · exact .rfl
  · by_cases hb : b = a
    · rw [hb, recomputeOffer_att_self, moveWindows_att, if_pos rfl]
      rfl
    · rw [recomputeOffer_att_ne _ hb, moveWindows_att, if_neg hb]
      exact .rfl

/-- Only an attraction's own Estimator work writes its wait and its counts (R2). -/
theorem tickWork_sameWait {m : Nat} {a : AttrNo} {w : TickWork} (h : w ≠ .estimator a) (s : State) :
    (s.att a).SameWait ((tickWork m w s).att a) := by
  cases w with
  | frame => exact frameWork_sameWait m s a
  | estimator b =>
    have hb : a ≠ b := fun e => h (e ▸ rfl)
    rw [tickWork, estimatorWork_att_ne s hb]
    exact .rfl
  | book b => exact bookWork_sameWait m b a s

theorem tickEvents_sameWait {m : Nat} {a : AttrNo} {works : List TickWork} (h : .estimator a ∉ works) (s : State) :
    (s.att a).SameWait ((works.foldl (tickEvent m) s).att a) := by
  induction works generalizing s with
  | nil => exact .rfl
  | cons w works ih =>
    have hw : w ≠ .estimator a := fun e => h (e ▸ List.mem_cons_self ..)
    exact (tickWork_sameWait hw s).trans (ih (List.not_mem_of_not_mem_cons h) _)

/-! ## The one move of a list in a tick -/

/-- No work of a tick moves O or Z. -/
theorem tickWork_minutes (m : Nat) (w : TickWork) (s : State) :
    (tickWork m w s).o = s.o ∧ (tickWork m w s).z = s.z := by
  have same : ∀ {t}, SameDay s t → t.o = s.o ∧ t.z = s.z := fun h => by
    simp only [State.o, State.z, h.open_, h.close, and_self]
  cases w with
  | frame =>
    obtain ⟨h, -⟩ | ⟨h, -⟩ | ⟨h, -⟩ := frameWork_cases m s <;> rw [tickWork, h] <;> exact ⟨rfl, rfl⟩
  | estimator a => exact same (estimatorWork_sameDay m a s)
  | book a => exact same (bookWork_sameDay m a s)

theorem tickEvents_o (m : Nat) (works : List TickWork) (s : State) : (works.foldl (tickEvent m) s).o = s.o :=
  foldl_keeps (f := tickEvent m) (P := fun t => t.o = s.o) (fun t w h => (tickWork_minutes m w t).1.trans h) works s rfl

/-- Whether the frame holds lists that can move: ARMED or OPEN (R94). -/
def State.going (s : State) : Prop := s.day = .armed ∨ s.day = .opened

/-- No work of a tick brings the frame into ARMED or OPEN from outside (R10). -/
theorem tickWork_going {m : Nat} {w : TickWork} {s : State} (h : (tickWork m w s).going) : s.going := by
  cases w with
  | frame =>
    obtain ⟨hw, -⟩ | ⟨-, hd, -⟩ | ⟨-, hd, -⟩ := frameWork_cases m s
    · rwa [tickWork, hw] at h
    · exact .inl hd
    · exact hd.elim .inr fun hd => .inl hd.1
  | estimator a => rwa [State.going, tickWork, (estimatorWork_sameDay m a s).day] at h
  | book a => rwa [State.going, tickWork, (bookWork_sameDay m a s).day] at h

/-- A work that moves a list is the frame's end at Z or later, or the attraction's own Book work before Z (R94, R101). -/
theorem tickWork_windows (m : Nat) (w : TickWork) (s : State) (a : AttrNo) :
    ((tickWork m w s).att a).windows = (s.att a).windows ∨
      s.going ∧ (s.z ≤ m ∧ ¬ (tickWork m w s).going ∨ m < s.z ∧ w = .book a) := by
  cases w with
  | frame =>
    obtain ⟨h, -⟩ | ⟨h, -⟩ | ⟨h, hd, hz⟩ := frameWork_cases m s <;> rw [tickWork, h]
    · exact .inl rfl
    · rw [raiseAll_att, openFrameDay_att]
      exact .inl rfl
    · exact .inr ⟨hd.elim .inr fun hd => .inl hd.1, .inl ⟨hz, by simp [State.going]⟩⟩
  | estimator b => exact .inl ((estimatorWork_stays m b s).windows a)
  | book b =>
    by_cases hb : b = a
    · by_cases hi : BookIdle m s
      · rw [tickWork, bookWork_idle (.inr hi)]
        exact .inl rfl
      · simp only [BookIdle, not_or, Nat.not_lt, Nat.not_le] at hi
        obtain ⟨hd, -, hz⟩ := hi
        refine .inr ⟨?_, .inr ⟨hz, by rw [hb]⟩⟩
        unfold State.going
        tauto
    · obtain h | ⟨o, z, xs, h⟩ := bookWork_cases m b s <;> rw [tickWork, h]
      · exact .inl rfl
      · rw [recomputeOffer_att_ne _ (Ne.symm hb), moveWindows_att, if_neg (Ne.symm hb)]
        exact .inl rfl

/-- An attraction's list can move no more in the works still to come: the frame holds no list that could, or it stays before
Z and the attraction's Book work is done. -/
def ListRests (m : Nat) (a : AttrNo) (works : List TickWork) (s : State) : Prop :=
  ¬ s.going ∨ m < s.z ∧ .book a ∉ works

theorem ListRests.event {m : Nat} {a : AttrNo} {w : TickWork} {works : List TickWork} {s : State}
    (h : ListRests m a (w :: works) s) : ListRests m a works (tickEvent m s w) := by
  obtain h | ⟨hz, hb⟩ := h
  · exact .inl fun hg => h (tickWork_going hg)
  · exact .inr ⟨(tickWork_minutes m w s).2 ▸ hz, List.not_mem_of_not_mem_cons hb⟩

/-- Before Z no work ends the frame, so a list that rests stays. -/
theorem ListRests.windows {m : Nat} {a : AttrNo} {works : List TickWork} {s : State} (h : ListRests m a works s) :
    ((works.foldl (tickEvent m) s).att a).windows = (s.att a).windows := by
  induction works generalizing s with
  | nil => rfl
  | cons w works ih =>
    refine (ih h.event).trans ?_
    obtain hw | ⟨hg, ⟨hz, -⟩ | ⟨hz, rfl⟩⟩ := tickWork_windows m w s a
    · exact hw
    · obtain h | ⟨hlt, -⟩ := h
      · exact absurd hg h
      · omega
    · obtain h | ⟨-, hb⟩ := h
      · exact absurd hg h
      · exact absurd (List.mem_cons_self ..) hb

/-- An attraction's list is as the tick found it, or as the tick leaves it (R75). -/
def ListOnce (m : Nat) (a : AttrNo) (s : State) (works : List TickWork) (u : State) : Prop :=
  (u.att a).windows = (s.att a).windows ∨ ListRests m a works u

theorem ListOnce.event {m : Nat} {a : AttrNo} {s u : State} {w : TickWork} {works : List TickWork}
    (h : ListOnce m a s (w :: works) u) (hn : (w :: works).Nodup) : ListOnce m a s works (tickEvent m u w) := by
  obtain h | h := h
  · obtain hw | ⟨-, ⟨-, hg⟩ | ⟨hz, rfl⟩⟩ := tickWork_windows m w u a
    · exact .inl (hw.trans h)
    · exact .inr (.inl hg)
    · exact .inr (.inr ⟨(tickWork_minutes m _ u).2 ▸ hz, (List.nodup_cons.mp hn).1⟩)
  · exact .inr h.event

theorem ListOnce.events {m : Nat} {a : AttrNo} {s u : State} {works behind : List TickWork}
    (h : ListOnce m a s (works ++ behind) u) (hn : (works ++ behind).Nodup) :
    ListOnce m a s behind (works.foldl (tickEvent m) u) := by
  induction works generalizing u with
  | nil => exact h
  | cons w works ih => exact ih (h.event hn) (List.nodup_cons.mp hn).2

/-! ## One record through a tick -/

/-- Works that hold an attraction's Estimator work once make of its record what the Estimator makes of it, on its list as
they found it or as they leave it (R2, R64, R75). -/
theorem tickEvents_att {m : Nat} {a : AttrNo} {works : List TickWork} (hn : works.Nodup) (hmem : .estimator a ∈ works)
    (s : State) : ∃ ws ys y, (ws = (s.att a).windows ∨ ws = ys) ∧
      (works.foldl (tickEvent m) s).att a =
        { estimate s.o m { s.att a with windows := ws } with windows := ys, offer := y } := by
  obtain ⟨before, behind, rfl⟩ := List.append_of_mem hmem
  obtain ⟨-, hbehind, hdis⟩ := List.nodup_append.mp hn
  have hbefore : TickWork.estimator a ∉ before := fun hb => hdis _ hb _ (List.mem_cons_self ..) rfl
  have honce : ListOnce m a s (.estimator a :: behind) (before.foldl (tickEvent m) s) := ListOnce.events (.inl rfl) hn
  rw [List.foldl_append, List.foldl_cons]
  have hv := tickEvents_sameWait (m := m) hbefore s
  have ho := tickEvents_o m before s
  generalize before.foldl (tickEvent m) s = v at hv ho honce
  obtain ⟨y, hu⟩ := estimatorWork_att_self m a v
  have ht := tickEvents_sameWait (m := m) (List.nodup_cons.mp hbehind).1 (tickEvent m v (.estimator a))
  have hlist : (v.att a).windows = (s.att a).windows ∨
      (v.att a).windows = ((behind.foldl (tickEvent m) (tickEvent m v (.estimator a))).att a).windows :=
    honce.imp_right fun h => h.windows.symm
  obtain ⟨x, hx⟩ := hv.estimate s.o m
  have he : (tickEvent m v (.estimator a)).att a =
      { estimate s.o m { s.att a with windows := (v.att a).windows } with offer := y } := by
    rw [← ho] at hx ⊢
    exact hu.trans (by rw [hx])
  rw [Attraction.SameWait, he] at ht
  exact ⟨_, _, _, hlist, ht⟩

/-- A minute tick makes of a record what the Estimator makes of it, on its list as the tick found it or as it leaves it. -/
theorem secondTick_att {s : State} (hdue : s.minuteDue = true) (a : AttrNo) : ∃ ws ys y,
    (ws = (s.att a).windows ∨ ws = ys) ∧ (secondTick s).att a =
      { estimate s.o s.nextReading.minute { s.att a with windows := ws } with windows := ys, offer := y } := by
  have hn : (tickOrder (clockTick s)).Nodup := (tickOrder_perm _).nodup_iff.mpr nodup_tickWorks
  have hmem : .estimator a ∈ tickOrder (clockTick s) := (tickOrder_perm _).mem_iff.mpr (by simp [tickWorks])
  have h := tickEvents_att (m := s.nextReading.minute) hn hmem { clockTick s with choice := (clockTick s).choice + 1 }
  have ha : State.att { clockTick s with choice := (clockTick s).choice + 1 } a = s.att a :=
    att_congr (clockTick_attractions s) a
  have ho : State.o { clockTick s with choice := (clockTick s).choice + 1 } = s.o := by
    simp only [State.o, clockTick_openMinute]
  rw [ha, ho] at h
  rwa [secondTick, if_pos hdue, settle_att, minuteWork_eq]

/-! ## The aging tick -/

theorem exec_agingTick {s : State} {a : AttrNo} (hdue : s.minuteDue = true) (hs : (s.att a).state = .operating)
    (ha : (s.att a).aged = false) (hc : (s.att a).ageCounter ≤ 1) : exec (.agingTick a) s = .next (secondTick s) :=
  congrArg _ (if_pos (by simp [agesNext, hdue, hs, ha, hc]))

theorem settled_secondTick (s : State) : Settled (secondTick s) := settled_settle _

end Sys2Proof.Machine

namespace Sys2Proof.Proofs

open Sys2Proof.Machine

/-- Settles O10: the tick gives the record the Estimator's aging and nothing else of the wait, and a settled part shows the
flag in the posting and at every port. -/
theorem agingTick : Obligations.AgingTick := by
  intro s a hdue hs ha hc
  refine ⟨_, exec_agingTick hdue hs ha hc, exec_minuteTick hdue, ?_⟩
  obtain ⟨ws, ys, y, -, ht⟩ := secondTick_att hdue a
  rw [estimate_ages (r := { s.att a with windows := ws }) _ _ hs ha hc] at ht
  have hset := settled_secondTick s
  have hstate : ((Machine.secondTick s).att a).state = .operating := by rw [ht]; exact hs
  have haged : ((Machine.secondTick s).att a).aged = true := by rw [ht]
  have hshown : ((Machine.secondTick s).postings[a].shown.map (·.aged)) = some true := by
    rw [hset.postings, postingOf, if_pos hstate, Option.map_some, haged]
  have hflag : ∀ q, ((Machine.secondTick s).port q).has .aged = true := fun q => by
    rw [hset.aged, anyAged_iff]
    exact ⟨a, hstate, haged⟩
  exact ⟨haged, congrArg (·.ageCounter) ht, congrArg (·.riders) ht, congrArg (·.target) ht, congrArg (·.targetOver) ht,
    congrArg (·.posted) ht, hshown, hflag⟩

end Sys2Proof.Proofs
end

section
/-! PROOFS. What a minute tick leaves alone, and what its works publish one after another (R2, R136, R150, R176). -/

namespace Sys2Proof.Machine

/-! ## What one work touches -/

/-- Only the frame state, the records, the pass table and the ports differ in two states. -/
def TouchesBook (s u : State) : Prop :=
  u = { s with
    day := u.day
    attractions := u.attractions
    slots := u.slots
    freeQueue := u.freeQueue
    ports := u.ports }

theorem TouchesBook.rfl {s : State} : TouchesBook s s := Eq.refl _

theorem TouchesBook.trans {s t u : State} (h : TouchesBook s t) (k : TouchesBook t u) : TouchesBook s u := by
  unfold TouchesBook at *
  rw [k, h]

theorem freeEach_touchesBook (s : State) (hit : Nat → Pass → Bool) (ws : List Nat) :
    TouchesBook s (s.freeEach hit ws) := by
  induction ws generalizing s with
  | nil => exact .rfl
  | cons w ws ih => exact TouchesBook.trans (t := s.freeWhere (hit w)) rfl (ih _)

theorem moveWindows_touchesBook (m o z : Nat) (a : AttrNo) (xs : List Window) (s : State) :
    TouchesBook s (moveWindows m o z a xs s) := by
  have hmoved : TouchesBook s (movedBook m o z a xs s) :=
    TouchesBook.trans (t := (s.updAtt a _).retag _ .expired) rfl (freeEach_touchesBook ..)
  rw [moveWindows_eq]
  split
  · exact hmoved.trans rfl
  · exact hmoved

theorem tickWork_touchesBook (m : Nat) (w : TickWork) (s : State) : TouchesBook s (tickWork m w s) := by
  cases w with
  | frame => obtain ⟨h, -⟩ | ⟨h, -⟩ | ⟨h, -⟩ := frameWork_cases m s <;> rw [tickWork, h] <;> rfl
  | estimator a =>
    unfold tickWork estimatorWork
    simp only []
    split <;> rfl
  | book a =>
    obtain h | ⟨o, z, xs, h⟩ := bookWork_cases m a s <;> rw [tickWork, h]
    · exact .rfl
    · exact (moveWindows_touchesBook ..).trans rfl

/-- A work of a tick raises at most WINDOW and FRAME at a port, and touches nothing else of it (R16, R102). -/
theorem tickWork_port (m : Nat) (w : TickWork) (s : State) (q : PortNo) :
    ∃ b c, (tickWork m w s).port q = ((s.port q).raiseIf .window b).raiseIf .frame c := by
  cases w with
  | frame =>
    obtain ⟨h, -⟩ | ⟨h, -⟩ | ⟨h, -⟩ := frameWork_cases m s <;> rw [tickWork, h]
    · exact ⟨false, false, rfl⟩
    · exact ⟨false, true, by rw [raiseAll_port, openFrameDay_port]; rfl⟩
    · exact ⟨_, true, by rw [raiseAll_port, endFrame_port]; rfl⟩
  | estimator a => exact ⟨false, false, by rw [tickWork, port_congr (estimatorWork_ports ..)]; rfl⟩
  | book a =>
    obtain ⟨b, h⟩ := bookWork_port m a s q
    exact ⟨b, false, h⟩

theorem tickWork_state (m : Nat) (w : TickWork) (s : State) (a : AttrNo) :
    ((tickWork m w s).att a).state = (s.att a).state := by
  by_cases h : w = .estimator a
  · obtain ⟨y, hy⟩ := estimatorWork_att_self m a s
    rw [h, tickWork, hy]
    exact (estimate_sameTerms ..).state
  · rw [tickWork_sameWait h s]

/-- What one work of a tick may touch: the book, the flags WINDOW and FRAME, and no attraction's state. -/
structure WorksOn (s u : State) : Prop where
  touches : TouchesBook s u
  port : ∀ q, ∃ b c, u.port q = ((s.port q).raiseIf .window b).raiseIf .frame c
  state : ∀ a, (u.att a).state = (s.att a).state

theorem WorksOn.rfl {s : State} : WorksOn s s := ⟨.rfl, fun _ => ⟨false, false, Eq.refl _⟩, fun _ => Eq.refl _⟩

theorem tickWork_worksOn (m : Nat) (w : TickWork) (s : State) : WorksOn s (tickWork m w s) :=
  ⟨tickWork_touchesBook m w s, tickWork_port m w s, tickWork_state m w s⟩

theorem WorksOn.onlyFlags {s u : State} (h : WorksOn s u) (q : PortNo) : (s.port q).OnlyFlags (u.port q) := by
  obtain ⟨b, c, hq⟩ := h.port q
  rw [hq]
  exact (Port.OnlyFlags.rfl.raiseIf ..).raiseIf ..

theorem WorksOn.has {s u : State} (h : WorksOn s u) (q : PortNo) {k : EventKind} (hk : k = .attraction ∨ k = .scan) :
    (u.port q).has k = (s.port q).has k := by
  obtain ⟨b, c, hq⟩ := h.port q
  rcases hk with rfl | rfl <;> simp [hq]

/-! ## Publishing -/

/-- A posting that moved over two events moved at one of them. -/
theorem postingMoved_or {s u v : State} {a : AttrNo} (h : postingMoved s v a = true) :
    postingMoved s u a = true ∨ postingMoved u v a = true := by
  simp only [postingMoved, decide_eq_true_eq] at *
  by_contra hn
  simp only [not_or, not_not] at hn
  exact h (hn.2.trans hn.1)

/-- Between settled states only an OPERATING attraction's posting moves while the states stand (R133). -/
theorem operating_of_postingMoved {s u : State} (hs : Settled s) (hu : Settled u) {a : AttrNo}
    (hstate : (u.att a).state = (s.att a).state) (h : postingMoved s u a = true) : (s.att a).state = .operating := by
  by_contra hn
  rw [postingMoved, decide_eq_true_eq, hs.postings, hu.postings] at h
  exact h ((postingOf_eq_iff _ _).mpr ⟨hstate, fun he => absurd he hn⟩)

/-- What a tick has published up to one event, and the event publishes, the tick has published after it. -/
theorem TickPublishes.trans {s u v : State} (h : TickPublishes s u) (k : Publishes u v) (he : u.entries = s.entries)
    (hu : ∀ a, (u.att a).state = (s.att a).state) (hv : ∀ a, (v.att a).state = (u.att a).state) : TickPublishes s v where
  settled := k.settled
  joins q a ha := by
    rw [k.changed, Bool.or_eq_true]
    obtain ha | ha := ha
    · exact .inl (h.joins q a (.inl ha))
    · exact (postingMoved_or ha).imp_left fun ha => h.joins q a (.inr ha)
  onlyOperating q a ha := by
    rw [k.changed, Bool.or_eq_true] at ha
    obtain ha | ha := ha
    · exact h.onlyOperating q a ha
    · exact .inr (hu a ▸ operating_of_postingMoved h.settled k.settled (hv a) ha)
  marks e b hb hm := by
    rw [k.dirty, Bool.or_eq_true, he, hb]
    exact (postingMoved_or hm).imp_left (h.marks e b hb)
  stays e hd := by
    rw [k.dirty, h.stays e hd, Bool.true_or]
  onlyNaming e hd := by
    rw [k.dirty, Bool.or_eq_true, he] at hd
    obtain hd | hd := hd
    · exact h.onlyNaming e hd
    · cases hb : s.entries[e].binding with
      | none =>
        rw [hb] at hd
        cases hd
      | some b =>
        rw [hb] at hd
        exact .inr ⟨b, rfl, hu _ ▸ operating_of_postingMoved h.settled k.settled (hv _) hd⟩

/-- An event that touches no posting, change set or dirty place publishes nothing. -/
theorem TickPublishes.start {s u : State} (h : Settled u) (hp : u.postings = s.postings)
    (hc : ∀ q, (u.port q).changed = (s.port q).changed) (hd : u.dirty = s.dirty) : TickPublishes s u := by
  have hm : ∀ a, postingMoved s u a = false := fun a => by simp [postingMoved, hp]
  refine ⟨h, fun q a ha => ?_, fun q a ha => .inl (hc q ▸ ha), fun e b _ hb => ?_, fun e he => hd ▸ he,
    fun e he => .inl (hd ▸ he)⟩
  · rw [hm, or_iff_left Bool.false_ne_true] at ha
    rwa [hc]
  · rw [hm] at hb
    cases hb

/-! ## The whole tick -/

/-- The clock's part of a tick raises at most CLOCK at a port (R5). -/
theorem clockTick_port (s : State) (q : PortNo) : ∃ b, (clockTick s).port q = (s.port q).raiseIf .clock b := by
  cases hl : s.loads with
  | none => exact ⟨false, by rw [clockTick_advance hl]; rfl⟩
  | some v => exact ⟨true, by rw [clockTick_load hl, raiseAll_port]; rfl⟩

theorem Settled.clockTick {s : State} (h : Settled s) : Settled (clockTick s) := by
  cases hl : s.loads with
  | none =>
    rw [clockTick_advance hl]
    exact h.same rfl rfl rfl
  | some v =>
    rw [clockTick_load hl]
    exact Settled.raiseAll (s := { s with clock := v, pendingClock := none, clockSet := true }) (h.same rfl rfl rfl) rfl

/-- The parts that a minute tick may touch (R2). -/
def tickParts : List Part := [.clock, .frame, .attractions, .passes, .postings, .dirty, .ports, .choice]

/-- What a minute tick has kept and published after some of its works. -/
structure TickRun (s u : State) : Prop where
  keeps : KeepsBut tickParts s u
  ports : PortsQuiet s u
  flags : ∀ q k, k = .attraction ∨ k = .scan → (u.port q).has k = (s.port q).has k
  state : ∀ a, (u.att a).state = (s.att a).state
  publishes : Settled s → TickPublishes s u

theorem WorksOn.keeps {s u : State} (h : WorksOn s u) : KeepsBut tickParts s (settle u) := by
  intro x hx
  have ht : u = _ := h.touches
  cases x with
  | lines | entries | refresh | board | pending => rw [Part.same, ht]; rfl
  | clock | frame | attractions | passes | postings | dirty | ports | choice => simp [tickParts] at hx

theorem WorksOn.portsQuiet {s u : State} (h : WorksOn s u) : PortsQuiet s (settle u) := fun q => by
  obtain ⟨hlike, hlink, -⟩ := h.onlyFlags q
  exact ⟨(settle_port_link u q).trans hlink, (settle_port_role u q).trans hlike.role,
    (settle_port_period u q).trans hlike.period, (settle_port_shadow u q).trans hlike.shadow,
    (settle_port_enable u q).trans hlike.enable, (settle_port_level u q).trans hlike.level⟩

theorem WorksOn.publishes {s u : State} (h : WorksOn s u) : Publishes s (settle u) := by
  have ht : u = _ := h.touches
  exact publishes_settle (by rw [ht]) (fun q => (h.onlyFlags q).changed) (by rw [ht]) (by rw [ht])

/-- A run goes on over one more work, settled (log 19). -/
theorem TickRun.goes_on {s u v : State} (h : TickRun s u) (k : WorksOn u v) : TickRun s (settle v) where
  keeps := h.keeps.trans k.keeps
  ports := h.ports.trans k.portsQuiet
  flags q j hj := by
    rw [settle_has_edge v q j (by rcases hj with rfl | rfl <;> rfl), k.has q hj, h.flags q j hj]
  state a := (k.state a).trans (h.state a)
  publishes hs := (h.publishes hs).trans k.publishes (h.keeps .entries (by simp [tickParts])) h.state k.state

/-- Before its first work a tick has touched the clock, its flag at the ports and the count of choices. -/
theorem clockTick_run (s : State) (n : Nat) : TickRun s { clockTick s with choice := n } := by
  obtain ⟨hk, hp⟩ := clockTick_quiet s
  refine ⟨fun x hx => ?_, hp, fun q k hj => clockTick_has s q (by rcases hj with rfl | rfl <;> decide),
    fun a => by rw [← att_congr (clockTick_attractions s) a]; rfl, fun hs => ?_⟩
  · have hsub : [Part.clock, .ports] ⊆ tickParts := by simp [tickParts]
    have hsame := hk x fun h => hx (hsub h)
    cases x with
    | choice => simp [tickParts] at hx
    | _ => exact hsame
  · refine .start (hs.clockTick.same rfl rfl rfl) (hk .postings (by simp)) (fun q => ?_) (hk .dirty (by simp))
    obtain ⟨b, hb⟩ := clockTick_port s q
    exact (congrArg Port.changed hb).trans (Port.OnlyFlags.rfl.raiseIf ..).changed

/-- A minute tick is a run of works (R2). -/
theorem secondTick_run {s : State} (hdue : s.minuteDue = true) : TickRun s (secondTick s) := by
  rw [secondTick, if_pos hdue, minuteWork_eq]
  exact (foldl_keeps (P := TickRun s) (fun u w h => h.goes_on (tickWork_worksOn _ w u)) _ _ (clockTick_run s _)).goes_on .rfl

/-- The descent limiter: the target, or a step down towards it (R79). -/
theorem limited_eq (target posted step : Nat) :
    limited target posted step = if target < posted then max target (posted - step) else target := by
  by_cases h : target < posted
  · rw [limited, if_neg (Nat.not_le.mpr h), if_pos h]
  · rw [limited, if_pos (Nat.le_of_not_lt h), if_neg h]

end Sys2Proof.Machine

namespace Sys2Proof.Proofs

open Sys2Proof.Machine

/-- Settles O6: the tick is a run of works that keep and publish, and gives each record what the Estimator makes of it, whose
equation for each state gives the figures. -/
theorem minuteTickEstimates : Obligations.MinuteTickEstimates := by
  intro s hdue
  have hrun := secondTick_run hdue
  refine ⟨_, exec_minuteTick hdue, rfl, secondTick_clock s, hrun.keeps, hrun.ports, hrun.publishes, hrun.flags, fun a => ?_⟩
  obtain ⟨ws, ys, y, hws, ht⟩ := secondTick_att hdue a
  rw [ht]
  generalize s.nextReading.minute = m
  obtain ⟨hstate, hdesc, -, -⟩ := estimate_sameTerms s.o m { s.att a with windows := ws }
  obtain ⟨hgen, hq, hm⟩ := estimate_keeps s.o m { s.att a with windows := ws }
  refine ⟨hstate, hdesc, hgen, hq, hm, fun hs ha => ?_, fun hs ha => ?_, fun hs => ?_, fun hs => ?_⟩
  · obtain hc | hc := Nat.lt_or_ge 1 (s.att a).ageCounter
    · rw [estimate_posts (r := { s.att a with windows := ws }) s.o m hs ha hc]
      exact ⟨rfl, ⟨_, rfl, adjustment_rounds ..⟩, rfl, fun h => absurd h (by omega), fun _ => ⟨ha, limited_eq ..⟩,
        fun _ => ⟨ws, _, hws, rfl, rfl, rfl⟩⟩
    · rw [estimate_ages (r := { s.att a with windows := ws }) s.o m hs ha hc]
      exact ⟨rfl, ⟨_, rfl, adjustment_rounds ..⟩, (Nat.sub_eq_zero_of_le hc).symm, fun _ => ⟨rfl, rfl, rfl, rfl⟩,
        fun h => absurd h (by omega), fun h => absurd h (by omega)⟩
  · rw [estimate_aged (r := { s.att a with windows := ws }) s.o m hs ha]
    exact ⟨rfl, rfl, rfl, ha, rfl, rfl, rfl⟩
  · rw [estimate_down (r := { s.att a with windows := ws }) s.o m hs]
    exact ⟨rfl, rfl, rfl, rfl, rfl, rfl, rfl⟩
  · rw [estimate_idle (r := { s.att a with windows := ws }) s.o m hs]
    exact ⟨rfl, rfl, rfl, rfl, rfl, rfl, rfl⟩

end Sys2Proof.Proofs
end

section
/-! PROOFS. The pass table and its free queue: the law of both that every step keeps (R110 to R116). -/

namespace Sys2Proof.Machine

/-! ## The law of the table -/

/-- The laws of the free queue and of the table, and every pass with a party of 1 to 8 and a redeemed-at minute exactly
where it is REDEEMED (R110, R112, R116). -/
structure TableSound (s : State) : Prop where
  queue : QueueLaw s
  table : TableLaw s
  party : ∀ (i : SlotNo) r, s.slots[i].pass = some r → 1 ≤ r.party ∧ r.party ≤ 8
  redeemed : ∀ (i : SlotNo) r, s.slots[i].pass = some r → r.redeemedAt.isSome = (r.state = .redeemed)

/-- The law rests on the slots and the queue, and on the frame through OPEN alone. -/
theorem TableSound.same {s t : State} (h : TableSound s) (hp : Part.passes.same s t)
    (hd : t.day ≠ .opened → s.day ≠ .opened) : TableSound t := by
  obtain ⟨hs, hq⟩ := hp
  exact {
    queue := ⟨hq ▸ h.queue.once, by rw [hs, hq]; exact h.queue.free⟩
    table := fun ht => by rw [hs]; exact h.table (hd ht)
    party := by rw [hs]; exact h.party
    redeemed := by rw [hs]; exact h.redeemed }

/-- Outside OPEN the table is empty, whatever the frame goes to (R116). -/
theorem TableSound.closed {s t : State} (h : TableSound s) (hp : Part.passes.same s t) (hs : s.day ≠ .opened) :
    TableSound t := h.same hp fun _ => hs

theorem freeIf_pass_eq_none (hit : Pass → Bool) (x : Slot) :
    (x.freeIf hit).pass = none ↔ x.pass = none ∨ x.holds hit = true := by
  obtain ⟨g, pass⟩ := x
  cases pass with
  | none => simp [Slot.freeIf]
  | some r => cases hr : hit r <;> simp [Slot.freeIf, Slot.holds, hr]

/-- Slots freed join the queue, each once (R112, R114). -/
theorem TableSound.freeWhere {s : State} (h : TableSound s) (hit : Pass → Bool) : TableSound (s.freeWhere hit) where
  queue := {
    once := by
      refine List.Nodup.append h.queue.once (by rw [slotsWhere_eq]; exact (List.nodup_finRange _).filter _) ?_
      intro i hi hf
      obtain ⟨r, hr, -⟩ := (mem_slotsWhere s hit i).mp hf
      exact nomatch hr.symm.trans ((h.queue.free i).mp hi)
    free := fun i => by
      rw [freeWhere_slot, freeIf_pass_eq_none, holds_iff, ← mem_slotsWhere, ← h.queue.free i]
      exact List.mem_append }
  table hd i := by
    rw [freeWhere_slot, freeIf_pass_eq_none]
    exact .inl (h.table hd i)
  party i r hr := h.party i r ((freeIf_pass_eq_some ..).mp (freeWhere_slot s hit i ▸ hr)).1
  redeemed i r hr := h.redeemed i r ((freeIf_pass_eq_some ..).mp (freeWhere_slot s hit i ▸ hr)).1

/-- What a slot holds after a retagging came from the record that it held. -/
theorem retagIf_pass_eq_some {hit : Pass → Bool} {st : PassState} {x : Slot} {r : Pass}
    (h : (x.retagIf hit st).pass = some r) :
    ∃ r', x.pass = some r' ∧ r = if r'.state = .issued ∧ hit r' = true then { r' with state := st } else r' := by
  obtain ⟨r', hr'⟩ := Option.isSome_iff_exists.mp ((retagIf_pass_isSome hit st x).symm.trans (by rw [h]; rfl))
  rw [retagIf_pass hr', ← apply_ite some, Option.some.injEq] at h
  exact ⟨r', hr', h.symm⟩

/-- An ISSUED pass taken to EXPIRED or VOIDED keeps its slot (R126, R127). -/
theorem TableSound.retag {s : State} (h : TableSound s) (hit : Pass → Bool) {st : PassState} (hst : st ≠ .redeemed) :
    TableSound (s.retag hit st) where
  queue := {
    once := h.queue.once
    free := fun i => by
      rw [retag_slot, ← Option.isNone_iff_eq_none, ← Option.not_isSome, retagIf_pass_isSome, Option.not_isSome,
        Option.isNone_iff_eq_none]
      exact h.queue.free i }
  table hd i := by
    rw [retag_slot, ← Option.isNone_iff_eq_none, ← Option.not_isSome, retagIf_pass_isSome, Option.not_isSome,
        Option.isNone_iff_eq_none]
    exact h.table hd i
  party i r hr := by
    obtain ⟨r', hr', rfl⟩ := retagIf_pass_eq_some (retag_slot s hit st i ▸ hr)
    split <;> exact h.party i r' hr'
  redeemed i r hr := by
    obtain ⟨r', hr', rfl⟩ := retagIf_pass_eq_some (retag_slot s hit st i ▸ hr)
    have hred := h.redeemed i r' hr'
    split
    · next hi => simpa [hi.1, hst] using hred
    · exact hred

/-! ## One slot -/

/-- One slot and the queue have changed, in an OPEN frame. -/
theorem TableSound.one {s t : State} (h : TableSound s) (hd : s.day = .opened) {i : SlotNo}
    (hday : t.day = s.day) (hothers : ∀ j : SlotNo, j ≠ i → t.slots[j] = s.slots[j])
    (hself : ∀ r, t.slots[i].pass = some r → (1 ≤ r.party ∧ r.party ≤ 8) ∧ r.redeemedAt.isSome = (r.state = .redeemed))
    (hq : QueueLaw t) : TableSound t where
  queue := hq
  table hn := absurd (hday.trans hd) hn
  party j r hr := by
    by_cases hj : j = i
    · subst hj
      exact (hself r hr).1
    · exact h.party j r (hothers j hj ▸ hr)
  redeemed j r hr := by
    by_cases hj : j = i
    · subst hj
      exact (hself r hr).2
    · exact h.redeemed j r (hothers j hj ▸ hr)

/-- A table that holds a pass stands in an OPEN frame (R116). -/
theorem TableSound.opened {s : State} (h : TableSound s) {i : SlotNo} {r : Pass} (hr : s.slots[i].pass = some r) :
    s.day = .opened := by
  by_contra hd
  exact nomatch hr.symm.trans (h.table hd i)

end Sys2Proof.Machine
end

section
/-! PROOFS. One attraction's record against the frame and the pass table: its list as R86 gives, its windows and the
passes that name them (R87, R103, R115). -/

namespace Sys2Proof.Machine

/-! ## The parties of a window -/

/-- The party a slot counts for a window: that of its pass, where it names the window and is in a given state (R103). -/
def Slot.party (a : AttrNo) (w : Nat) (which : PassState → Bool) (x : Slot) : Nat :=
  match x.pass with
  | some r => if r.names a w && which r.state then r.party else 0
  | none => 0

theorem party_none {a : AttrNo} {w : Nat} {which : PassState → Bool} {x : Slot} (h : x.pass = none) :
    x.party a w which = 0 := by
  simp [Slot.party, h]

theorem party_some {a : AttrNo} {w : Nat} {which : PassState → Bool} {x : Slot} {r : Pass} (h : x.pass = some r) :
    x.party a w which = if r.names a w && which r.state then r.party else 0 := by
  simp [Slot.party, h]

theorem sum_map_toList {α : Type} {n : Nat} (v : Vector α n) (f : α → Nat) :
    (v.toList.map f).sum = ∑ i : Fin n, f v[i] := by
  have hmap : v.toList.map f = List.ofFn fun i : Fin n => f v[i] := by
    apply List.ext_getElem <;> simp
  rw [hmap, List.sum_ofFn]

/-- The parties of a window, slot by slot. -/
theorem parties_eq_sum (s : State) (a : AttrNo) (w : Nat) (which : PassState → Bool) :
    s.parties a w which = ∑ i : SlotNo, s.slots[i].party a w which :=
  sum_map_toList s.slots (Slot.party a w which)

/-- The passes that name a window are the same in two states, slot by slot. -/
def SameNaming (a : AttrNo) (w : Nat) (s t : State) : Prop :=
  ∀ (i : SlotNo) r, r.names a w = true → (t.slots[i].pass = some r ↔ s.slots[i].pass = some r)

theorem SameNaming.of_slots {a : AttrNo} {w : Nat} {s t : State} (h : t.slots = s.slots) : SameNaming a w s t :=
  fun i r _ => by rw [h]

/-- A slot whose passes name a window alike counts alike for it. -/
theorem party_congr {a : AttrNo} {w : Nat} {x y : Slot}
    (h : ∀ r : Pass, r.names a w = true → (y.pass = some r ↔ x.pass = some r)) (which : PassState → Bool) :
    y.party a w which = x.party a w which := by
  have quiet : ∀ {u v : Slot}, (∀ r : Pass, r.names a w = true → v.pass = some r → u.pass = some r) →
      u.pass = none ∨ (∃ r, u.pass = some r ∧ r.names a w = false) → v.party a w which = 0 := by
    intro u v hv hu
    cases hp : v.pass with
    | none => exact party_none hp
    | some r =>
      rw [party_some hp]
      cases hn : r.names a w with
      | false => rfl
      | true =>
        obtain hu | ⟨r', hu, hn'⟩ := hu <;> rw [hv r hn hp] at hu <;> cases hu
        rw [hn] at hn'
        cases hn'
  by_cases hx : ∃ r, x.pass = some r ∧ r.names a w = true
  · obtain ⟨r, hr, hn⟩ := hx
    rw [party_some hr, party_some ((h r hn).mpr hr)]
  · have hx' : x.pass = none ∨ ∃ r, x.pass = some r ∧ r.names a w = false := by
      cases hp : x.pass with
      | none => exact .inl rfl
      | some r => exact .inr ⟨r, rfl, by simpa using fun hn => hx ⟨r, hp, hn⟩⟩
    rw [quiet (fun r hn => (h r hn).mp) hx', quiet (fun _ _ he => he) hx']

theorem parties_congr {a : AttrNo} {w : Nat} {s t : State} (h : SameNaming a w s t) (which : PassState → Bool) :
    t.parties a w which = s.parties a w which := by
  rw [parties_eq_sum, parties_eq_sum]
  exact Finset.sum_congr rfl fun i _ => party_congr (h i) which

/-- One slot's change moves the sum by what the slot counts. -/
theorem parties_one {a : AttrNo} {w : Nat} {s t : State} {i : SlotNo}
    (h : ∀ j : SlotNo, j ≠ i → t.slots[j] = s.slots[j]) (which : PassState → Bool) :
    t.parties a w which + s.slots[i].party a w which = s.parties a w which + t.slots[i].party a w which := by
  have hrest : ∑ j ∈ Finset.univ.erase i, t.slots[j].party a w which =
      ∑ j ∈ Finset.univ.erase i, s.slots[j].party a w which :=
    Finset.sum_congr rfl fun j hj => by rw [h j (Finset.ne_of_mem_erase hj)]
  have ht := Finset.add_sum_erase Finset.univ (fun j : SlotNo => t.slots[j].party a w which) (Finset.mem_univ i)
  have hs := Finset.add_sum_erase Finset.univ (fun j : SlotNo => s.slots[j].party a w which) (Finset.mem_univ i)
  rw [parties_eq_sum, parties_eq_sum, ← ht, ← hs, hrest]
  omega

/-- No pass, no party. -/
theorem parties_eq_zero {s : State} {a : AttrNo} {w : Nat}
    (h : ∀ (i : SlotNo) r, s.slots[i].pass = some r → r.names a w = false) (which : PassState → Bool) :
    s.parties a w which = 0 := by
  rw [parties_eq_sum]
  refine Finset.sum_eq_zero fun i _ => ?_
  cases hp : s.slots[i].pass with
  | none => exact party_none hp
  | some r => rw [party_some hp, h i r hp]; rfl

/-- The parties of fewer states are no more. -/
theorem parties_le {s : State} {a : AttrNo} {w : Nat} {f g : PassState → Bool} (h : ∀ st, f st = true → g st = true) :
    s.parties a w f ≤ s.parties a w g := by
  rw [parties_eq_sum, parties_eq_sum]
  refine Finset.sum_le_sum fun i _ => ?_
  cases hp : s.slots[i].pass with
  | none => rw [party_none hp]; exact Nat.zero_le _
  | some r =>
    rw [party_some hp, party_some hp]
    cases hf : f r.state with
    | false => simp
    | true => rw [h _ hf]

/-- A pass that counts for a window counts its whole party. -/
theorem party_le_parties {s : State} {i : SlotNo} {r : Pass} (hr : s.slots[i].pass = some r) {which : PassState → Bool}
    (hw : which r.state = true) : r.party ≤ s.parties r.attraction r.window which := by
  have hi : s.slots[i].party r.attraction r.window which = r.party := by
    rw [party_some hr, hw, if_pos (by simp [Pass.names])]
  calc r.party = s.slots[i].party r.attraction r.window which := hi.symm
    _ ≤ ∑ j : SlotNo, s.slots[j].party r.attraction r.window which :=
      Finset.single_le_sum (f := fun j : SlotNo => s.slots[j].party r.attraction r.window which)
        (fun _ _ => Nat.zero_le _) (Finset.mem_univ i)
    _ = s.parties r.attraction r.window which := (parties_eq_sum ..).symm

/-! ## One window -/

@[simp] theorem fits_future (st : PassState) : st.fits .future = true ↔ st = .issued := by
  cases st <;> decide

@[simp] theorem fits_opened (st : PassState) : st.fits .opened = true ↔ st = .issued ∨ st = .redeemed := by
  cases st <;> decide

@[simp] theorem fits_slipped (st : PassState) : st.fits .slipped = true ↔ st = .issued ∨ st = .redeemed := by
  cases st <;> decide

@[simp] theorem fits_closed (st : PassState) : st.fits .closed = true ↔ st = .redeemed ∨ st = .expired := by
  cases st <;> decide

@[simp] theorem fits_void (st : PassState) : st.fits .void = true ↔ st = .redeemed ∨ st = .voided := by
  cases st <;> decide

/-- An ISSUED pass names a live window (R115). -/
theorem live_of_fits {x : Window} (h : PassState.issued.fits x.state = true) : x.live = true := h

theorem names_iff (a : AttrNo) (w : Nat) (r : Pass) : r.names a w = true ↔ r.attraction = a ∧ r.window = w := by
  simp [Pass.names]

/-- A window agrees with the pass table: A is at most B, an ended-at minute stands exactly in CLOSED, VOID and SPENT, each
pass that names it is in a state its own allows, and while it is live B and A are the sums of their parties (R87, R103,
R115). -/
structure Window.Agrees (s : State) (a : AttrNo) (w : Nat) (x : Window) : Prop where
  arrived : x.arrived ≤ x.booked
  ended : x.endedAt.isSome = true ↔ x.state = .closed ∨ x.state = .void ∨ x.state = .spent
  fits : ∀ (i : SlotNo) r, s.slots[i].pass = some r → r.names a w = true → r.state.fits x.state = true
  booked : x.live = true → x.booked = s.parties a w fun st => st = .issued || st = .redeemed
  redeemed : x.live = true → x.arrived = s.parties a w (· = .redeemed)

/-- A window that keeps its counts agrees as it did, where no pass comes to name it, those that do fit its new state, and it
is live only if it was and its passes are the same. -/
theorem Window.Agrees.moves {s t : State} {a : AttrNo} {w : Nat} {x y : Window} (h : x.Agrees s a w)
    (hb : y.booked = x.booked) (ha : y.arrived = x.arrived)
    (he : y.endedAt.isSome = true ↔ y.state = .closed ∨ y.state = .void ∨ y.state = .spent)
    (hf : ∀ (i : SlotNo) r, t.slots[i].pass = some r → r.names a w = true → r.state.fits y.state = true)
    (hl : y.live = true → x.live = true ∧ SameNaming a w s t) : y.Agrees t a w where
  arrived := by rw [hb, ha]; exact h.arrived
  ended := he
  fits := hf
  booked hy := by
    obtain ⟨hx, hs⟩ := hl hy
    rw [hb, parties_congr hs, h.booked hx]
  redeemed hy := by
    obtain ⟨hx, hs⟩ := hl hy
    rw [ha, parties_congr hs, h.redeemed hx]

/-- A window agrees as it did while the passes that name it are the same. -/
theorem Window.Agrees.same {s t : State} {a : AttrNo} {w : Nat} {x : Window} (h : x.Agrees s a w)
    (hs : SameNaming a w s t) : x.Agrees t a w :=
  h.moves rfl rfl h.ended (fun i r hr hn => h.fits i r ((hs i r hn).mp hr) hn) fun hx => ⟨hx, hs⟩

/-- A window with no party and no pass agrees. -/
theorem Window.Agrees.unnamed {s : State} {a : AttrNo} {w : Nat} {x : Window} (ha : x.arrived ≤ x.booked)
    (hb : x.live = true → x.booked = 0)
    (he : x.endedAt.isSome = true ↔ x.state = .closed ∨ x.state = .void ∨ x.state = .spent)
    (hn : ∀ (i : SlotNo) r, s.slots[i].pass = some r → r.names a w = false) : x.Agrees s a w where
  arrived := ha
  ended := he
  fits i r hr hname := by rw [hn i r hr] at hname; cases hname
  booked hx := by rw [hb hx, parties_eq_zero hn]
  redeemed hx := by
    rw [parties_eq_zero hn]
    have := hb hx
    omega

/-! ## One list -/

/-- A window list agrees with the pass table: each window does, and a pass of the attraction names one of them (R103,
R115). -/
structure ListAgrees (s : State) (a : AttrNo) (ws : List Window) : Prop where
  windows : ∀ (w : Nat) (x : Window), ws[w]? = some x → x.Agrees s a w
  named : ∀ (i : SlotNo) r, s.slots[i].pass = some r → r.attraction = a → r.window < ws.length

/-- A list changed window by window agrees where each window's change does, and no pass comes to name another window. -/
theorem ListAgrees.changed {s t : State} {a : AttrNo} {xs ys : List Window} (h : ListAgrees s a xs)
    (f : Nat → Window → Window) (hys : ∀ w : Nat, ys[w]? = xs[w]?.map (f w))
    (hf : ∀ w x, xs[w]? = some x → x.Agrees s a w → (f w x).Agrees t a w)
    (hn : ∀ (i : SlotNo) r, t.slots[i].pass = some r → r.attraction = a →
      r.window < xs.length) : ListAgrees t a ys where
  windows w y hy := by
    rw [hys, Option.map_eq_some_iff] at hy
    obtain ⟨x, hx, rfl⟩ := hy
    exact hf w x hx (h.windows w x hx)
  named i r hr ha := by
    have hlt := hn i r hr ha
    rw [← not_le, ← List.getElem?_eq_none_iff] at hlt ⊢
    rwa [hys, Option.map_eq_none_iff]

end Sys2Proof.Machine
end

section
/-! PROOFS. The book as one law of each attraction's record and one of the pass table, and the rules by which both are kept
(R86, R87, R103, R112, R115, R116). -/

namespace Sys2Proof.Machine

/-! ## One record -/

/-- A record agrees with the frame and the pass table: its list is there as R86 says, and agrees with the passes. -/
structure Attraction.Agrees (s : State) (a : AttrNo) (r : Attraction) : Prop where
  going : s.going → r.windows.isSome = r.inUse
  idle : s.day = .unset ∨ s.day = .half → r.windows = none
  unused : r.inUse = false → r.windows = none
  length : s.going → ∀ ws, r.windows = some ws → ws.length = windowCount s.o s.z r.desc
  list : ListAgrees s a r.list

theorem inUse_eq_false (r : Attraction) : r.inUse = false ↔ r.state = .unused := by
  simp [Attraction.inUse]

theorem inUse_iff (r : Attraction) : r.inUse = true ↔ r.state ≠ .unused := by
  simp [Attraction.inUse]

/-- The laws of the book are the law of the table and that of each record. -/
theorem bookSound_iff (s : State) : BookSound s ↔ TableSound s ∧ ∀ a, (s.att a).Agrees s a := by
  constructor
  · rintro ⟨lists, windows, queue, table, passes, bookings⟩
    refine ⟨⟨queue, table, fun i r hr => (passes i r hr).1, fun i r hr => (passes i r hr).2.1⟩, fun a => {
      going := fun h => lists.armed h a
      idle := fun h => lists.empty h a
      unused := fun h => lists.unused a ((inUse_eq_false _).mp h)
      length := fun h => lists.length h a
      list := ⟨fun w x hx => ?_, fun i r hr ha => ?_⟩ }⟩
    · exact {
        arrived := windows.arrived a w x hx
        ended := windows.ended a w x hx
        fits := fun i r hr hn => by
          obtain ⟨rfl, rfl⟩ := (names_iff ..).mp hn
          obtain ⟨-, -, y, hy, hf⟩ := passes i r hr
          cases (hy.symm.trans hx : some y = some x)
          exact hf
        booked := fun hl => (bookings a w x hx hl).1
        redeemed := fun hl => (bookings a w x hx hl).2 }
    · subst ha
      obtain ⟨-, -, y, hy, -⟩ := passes i r hr
      exact (List.getElem?_eq_some_iff.mp hy).1
  · rintro ⟨table, records⟩
    exact {
      lists := {
        armed := fun h a => (records a).going h
        empty := fun h a => (records a).idle h
        unused := fun a h => (records a).unused ((inUse_eq_false _).mpr h)
        length := fun h a => (records a).length h }
      windows := {
        arrived := fun a w x hx => ((records a).list.windows w x hx).arrived
        ended := fun a w x hx => ((records a).list.windows w x hx).ended }
      queue := table.queue
      table := table.table
      passes := fun i r hr => by
        have hlt := (records r.attraction).list.named i r hr rfl
        have hx := (records r.attraction).list.windows r.window _ (List.getElem?_eq_getElem hlt)
        exact ⟨table.party i r hr, table.redeemed i r hr, _, List.getElem?_eq_getElem hlt,
          hx.fits i r hr ((names_iff ..).mpr ⟨rfl, rfl⟩)⟩
      bookings := fun a w x hx hl =>
        ⟨((records a).list.windows w x hx).booked hl, ((records a).list.windows w x hx).redeemed hl⟩ }

theorem BookSound.tableSound {s : State} (h : BookSound s) : TableSound s := ((bookSound_iff s).mp h).1

theorem BookSound.agrees {s : State} (h : BookSound s) (a : AttrNo) : (s.att a).Agrees s a := ((bookSound_iff s).mp h).2 a

theorem list_of_windows {r : Attraction} {ws : List Window} (h : r.windows = some ws) : r.list = ws := by
  simp [Attraction.list, h]

/-- The frame asks no more of the lists than it did (R86). -/
structure Eases (s t : State) : Prop where
  going : t.going → s.going ∧ t.o = s.o ∧ t.z = s.z
  idle : t.day = .unset ∨ t.day = .half → s.day = .unset ∨ s.day = .half

theorem eases_of_same {s t : State} (h : Part.frame.same s t) : Eases s t := by
  obtain ⟨hd, ho, hz⟩ := h
  constructor
  · rw [State.going, State.going, State.o, State.o, State.z, State.z, hd, ho, hz]
    exact fun h => ⟨h, rfl, rfl⟩
  · rw [hd]
    exact id

/-- A record whose list changes window by window agrees where each window's change does. -/
theorem Attraction.Agrees.changed {s t : State} {a : AttrNo} {r x : Attraction} (h : r.Agrees s a)
    (he : Eases s t) (hu : x.inUse = r.inUse) (hl : t.going → x.desc.length = r.desc.length)
    (g : List Window → List Window) (f : Nat → Window → Window) (hw : x.windows = r.windows.map g)
    (hg : ∀ ws (w : Nat), (g ws)[w]? = ws[w]?.map (f w))
    (hx : ∀ w x, r.window w = some x → x.Agrees s a w → (f w x).Agrees t a w)
    (hn : ∀ (i : SlotNo) p, t.slots[i].pass = some p → p.attraction = a → p.window < r.list.length) :
    x.Agrees t a := by
  have hlen : ∀ ws, (g ws).length = ws.length := fun ws => by
    refine Nat.le_antisymm ?_ ?_ <;> rw [← List.getElem?_eq_none_iff]
    · rw [hg, List.getElem?_eq_none (Nat.le_refl _)]; rfl
    · have := List.getElem?_eq_none (l := g ws) (Nat.le_refl _)
      rwa [hg, Option.map_eq_none_iff] at this
  exact {
    going := fun hgo => by rw [hw, Option.isSome_map, hu]; exact h.going (he.going hgo).1
    idle := fun hd => by rw [hw, h.idle (he.idle hd)]; rfl
    unused := fun hun => by rw [hw, h.unused (hu ▸ hun)]; rfl
    length := fun hgo ys hys => by
      obtain ⟨xs, hxs, rfl⟩ := Option.map_eq_some_iff.mp (hw ▸ hys)
      obtain ⟨hgo', ho, hz⟩ := he.going hgo
      rw [hlen, h.length hgo' xs hxs, ho, hz, windowCount, windowCount, hl hgo]
    list := by
      refine h.list.changed f (fun w => ?_) hx hn
      rw [Attraction.list, hw, Attraction.list]
      cases r.windows with
      | none => rfl
      | some ws => exact hg ws w }

/-- A record agrees as it did while its list, its being in use and its window length stand, the frame asks no more, and the
passes that name the record are the same. -/
theorem Attraction.Agrees.same {s t : State} {a : AttrNo} {r x : Attraction} (h : r.Agrees s a)
    (he : Eases s t) (hs : ∀ w, SameNaming a w s t) (hw : x.windows = r.windows) (hu : x.inUse = r.inUse)
    (hl : x.desc.length = r.desc.length) : x.Agrees t a :=
  h.changed he hu (fun _ => hl) id (fun _ => id) (by simp [hw]) (by simp) (fun w _ _ hx => hx.same (hs w)) fun i p hp ha =>
    h.list.named i p ((hs p.window i p ((names_iff ..).mpr ⟨ha, rfl⟩)).mp hp) ha

/-- A record that is given a list as a build makes it, of an attraction that no pass names, agrees in an ARMED or OPEN frame
(R89, R90). -/
theorem Attraction.Agrees.built {s : State} {a : AttrNo} {r : Attraction} {ws : List Window} {opens down : Bool}
    {now o z : Nat} {d : Descriptor} (hg : s.going) (hu : r.inUse = true) (hw : r.windows = some ws)
    (hb : Built opens now o z d down ws) (ho : s.o = o) (hz : s.z = z) (hl : r.desc.length = d.length)
    (hn : ∀ (i : SlotNo) p, s.slots[i].pass = some p → p.attraction ≠ a) : r.Agrees s a where
  going _ := by rw [hw, hu]; rfl
  idle hd := by
    unfold State.going at hg
    rcases hd with hd | hd <;> simp [hd] at hg
  unused hf := by rw [hu] at hf; cases hf
  length _ ys hy := by
    cases hw.symm.trans hy
    rw [windowCount, hl, ho, hz]
    exact hb.length
  list := by
    rw [list_of_windows hw]
    refine ⟨fun w x hx => ?_, fun i p hp ha => absurd ha (hn i p hp)⟩
    obtain ⟨-, hbooked, harrived⟩ := hb.fresh x (List.mem_of_getElem? hx)
    refine .unnamed (by omega) (fun _ => hbooked) ?_ fun i p hp => by simp [Pass.names, hn i p hp]
    cases opens with
    | false =>
      obtain ⟨hs, he⟩ := hb.future rfl x (List.mem_of_getElem? hx)
      simp [hs, he]
    | true =>
      have ht := hb.byTime rfl w x hx
      unfold SetByTime at ht
      simp only [] at ht
      split_ifs at ht <;> obtain ⟨hs, he⟩ := ht <;> simp [hs, he]

/-- A record without a list agrees where no pass names its attraction and the frame gives it none. -/
theorem Attraction.Agrees.listless {s : State} {a : AttrNo} {r : Attraction} (hw : r.windows = none)
    (hg : s.going → r.inUse = false) (hn : ∀ (i : SlotNo) p, s.slots[i].pass = some p → p.attraction ≠ a) :
    r.Agrees s a where
  going h := by rw [hw, hg h]; rfl
  idle _ := hw
  unused _ := hw
  length _ ws h := by rw [hw] at h; cases h
  list := by
    rw [Attraction.list, hw]
    exact ⟨fun w x hx => by simp at hx, fun i p hp ha => absurd ha (hn i p hp)⟩

/-! ## The book -/

/-- The frame, the lists, the slots and the queue are the same in two states, and so is which attractions are in use and how
long their windows are. -/
structure SameBook (s t : State) : Prop where
  frame : Part.frame.same s t
  passes : Part.passes.same s t
  windows : ∀ a, (t.att a).windows = (s.att a).windows
  inUse : ∀ a, (t.att a).inUse = (s.att a).inUse
  length : ∀ a, (t.att a).desc.length = (s.att a).desc.length

/-- The laws of the book rest on nothing else. -/
theorem BookSound.same {s t : State} (h : BookSound s) (k : SameBook s t) : BookSound t :=
  (bookSound_iff t).mpr ⟨h.tableSound.same k.passes fun hd => k.frame.1 ▸ hd, fun a =>
    (h.agrees a).same (eases_of_same k.frame) (fun _ => .of_slots k.passes.1) (k.windows a) (k.inUse a) (k.length a)⟩

theorem BookSound.sameRecords {s t : State} (h : BookSound s) (hf : Part.frame.same s t) (hp : Part.passes.same s t)
    (ha : t.attractions = s.attractions) : BookSound t :=
  h.same ⟨hf, hp, fun a => by rw [att_congr ha], fun a => by rw [att_congr ha], fun a => by rw [att_congr ha]⟩

/-- The laws of the book stand where one record changes, to one that agrees, and only its passes do. -/
theorem BookSound.one {s t : State} {a : AttrNo} {r : Attraction} (h : BookSound s) (ht : TableSound t)
    (hf : Part.frame.same s t) (hatt : ∀ b, t.att b = if b = a then r else s.att b)
    (hn : ∀ b, b ≠ a → ∀ w, SameNaming b w s t) (hr : r.Agrees t a) : BookSound t :=
  (bookSound_iff t).mpr ⟨ht, fun b => by
    rw [hatt]
    split
    · next hb => exact hb ▸ hr
    · next hb => exact (h.agrees b).same (eases_of_same hf) (hn b hb) rfl rfl rfl⟩

end Sys2Proof.Machine
end

section
/-! PROOFS. The works of a tick and the book's laws: each work keeps them (R94 to R98, R101, R126, R128, R129). -/

namespace Sys2Proof.Machine

/-! ## One window at a tick -/

/-- What the Book's work at minute m can make of a window (R95 to R98). -/
inductive Ticked (m o : Nat) (x : Window) : Window → Prop where
  | stays (h : retired m o x = false) : Ticked m o x x
  | opens (st : WindowState) (h : x.state = .future) (hst : st = .opened ∨ st = .slipped) :
      Ticked m o x { x with state := st }
  | closes (h : x.state = .future ∨ x.state = .opened) : Ticked m o x { x with state := .closed, endedAt := some m }
  | retires (h : retired m o x = true) : Ticked m o x { x with state := .spent }

theorem tickWindow_ticked (m o z : Nat) (r : Attraction) (w : Nat) (x : Window) :
    Ticked m o x (tickWindow m o z r.desc (r.state = .down) w x) := by
  have hm := tickWindow_movedAt m o z r w x
  cases hr : retired m o x with
  | true =>
    obtain ⟨hs, hle⟩ := (retired_iff ..).mp hr
    rw [hm.retires hs hle]
    exact .retires hr
  | false =>
    have ended : x.state = .closed ∨ x.state = .void → m < max (x.endedAt.getD 0) o + 30 := fun hs =>
      Nat.lt_of_not_le fun hle => by simp [(retired_iff m o x).mpr ⟨hs, hle⟩] at hr
    cases hs : x.state with
    | future =>
      obtain hlt | hle := Nat.lt_or_ge (m + r.desc.earlyGrace) (o + w * r.desc.length)
      · rw [hm.early hs hlt]
        exact .stays hr
      · by_cases hd : r.state = .down
        · rw [hm.slips hs hle hd]
          exact .opens _ hs (.inr rfl)
        · obtain hlt | hge := Nat.lt_or_ge m (min (o + w * r.desc.length + r.desc.length + r.desc.lateGrace) z)
          · rw [hm.opens hs hle hd hlt]
            exact .opens _ hs (.inl rfl)
          · rw [hm.passes hs hle hd hge]
            exact .closes (.inl hs)
    | opened =>
      obtain hlt | hge := Nat.lt_or_ge m (min (o + w * r.desc.length + r.desc.length + r.desc.lateGrace) z)
      · rw [hm.stays hs hlt]
        exact .stays hr
      · rw [hm.closes hs hge]
        exact .closes (.inr hs)
    | slipped =>
      rw [hm.rests (.inl hs)]
      exact .stays hr
    | spent =>
      rw [hm.rests (.inr hs)]
      exact .stays hr
    | closed =>
      rw [hm.keeps (.inl hs) (ended (.inl hs))]
      exact .stays hr
    | void =>
      rw [hm.keeps (.inr hs) (ended (.inr hs))]
      exact .stays hr

/-- A pass after the Book's work for an attraction, by the window that it names: gone where that retires, EXPIRED from ISSUED
where it comes to be CLOSED, and else as it was (R126, R128). -/
theorem ticked_pass_of_window {m o z : Nat} {a : AttrNo} {r : Attraction} {xs : List Window} {w : Nat} {x : Window}
    (hx : xs[w]? = some x) {y : Slot} {p : Pass} (hp : y.pass = some p) (hn : p.names a w = true) :
    (y.ticked m o z a r xs).pass =
      if retired m o x = true then none
      else if p.state = .issued ∧ x.state ≠ .closed ∧ (tickWindow m o z r.desc (r.state = .down) w x).state = .closed then
        some { p with state := .expired }
      else some p := by
  obtain ⟨rfl, rfl⟩ := (names_iff ..).mp hn
  rw [ticked_pass hp]
  simp only [mem_retiringIn, hx, Option.some.injEq, exists_eq_left', closedBetween, getElem?_tickedList, Option.map_some,
    Bool.and_eq_true, bne_iff_ne, beq_iff_eq, ne_eq]

/-- A slot freed or kept by the Book's work held a pass of the same attraction and window, if it holds one now. -/
theorem pass_of_ticked {m o z : Nat} {a : AttrNo} {r : Attraction} {xs : List Window} {y : Slot} {p' : Pass}
    (h : (y.ticked m o z a r xs).pass = some p') :
    ∃ p, y.pass = some p ∧ p.attraction = p'.attraction ∧ p.window = p'.window := by
  cases hy : y.pass with
  | none =>
    rw [ticked_empty hy, hy] at h
    cases h
  | some p =>
    refine ⟨p, rfl, ?_⟩
    by_cases ha : p.attraction = a
    · subst ha
      rw [ticked_pass hy] at h
      split at h
      · cases h
      · split at h <;> cases h <;> exact ⟨rfl, rfl⟩
    · rw [ticked_other hy ha, hy] at h
      cases h
      exact ⟨rfl, rfl⟩

theorem moveWindows_frame (m o z : Nat) (a : AttrNo) (xs : List Window) (s : State) :
    Part.frame.same s (moveWindows m o z a xs s) := (moveWindows_sameDay m o z a xs s).frame

/-- The passes that name a window of another attraction are left alone. -/
theorem moveWindows_sameNaming {m o z : Nat} {a b : AttrNo} (hb : b ≠ a) (xs : List Window) (s : State) (w : Nat) :
    SameNaming b w s (moveWindows m o z a xs s) := fun i r hr => by
  obtain ⟨rfl, -⟩ := (names_iff ..).mp hr
  rw [moveWindows_slot]
  constructor
  · intro h
    obtain ⟨p, hp, ha, -⟩ := pass_of_ticked h
    rwa [ticked_other hp (ha ▸ hb)] at h
  · intro h
    rwa [ticked_other h hb]

/-- A pass that names a window before the Book's work, after it (R126, R128). -/
theorem moveWindows_pass {m o z : Nat} {a : AttrNo} {xs : List Window} {s : State} {w : Nat} {x : Window}
    (hx : xs[w]? = some x) {i : SlotNo} {p : Pass} (hp : s.slots[i].pass = some p) (hn : p.names a w = true) :
    (moveWindows m o z a xs s).slots[i].pass =
      if retired m o x = true then none
      else if p.state = .issued ∧ x.state ≠ .closed ∧
          (tickWindow m o z (s.att a).desc ((s.att a).state = .down) w x).state = .closed then
        some { p with state := .expired }
      else some p := by
  rw [moveWindows_slot, ticked_pass_of_window hx hp hn]

/-- A pass that names a window after the Book's work came from one that did before. -/
theorem pass_of_moveWindows {m o z : Nat} {a b : AttrNo} {xs : List Window} {s : State} {w : Nat} {i : SlotNo} {p' : Pass}
    (hp : (moveWindows m o z a xs s).slots[i].pass = some p') (hn : p'.names b w = true) :
    ∃ p, s.slots[i].pass = some p ∧ p.names b w = true := by
  rw [moveWindows_slot] at hp
  obtain ⟨p, hp, ha, hw⟩ := pass_of_ticked hp
  exact ⟨p, hp, by rwa [Pass.names, ha, hw]⟩

/-- The passes of a window that neither retires nor closes are left alone. -/
theorem moveWindows_sameNaming_self {m o z : Nat} {a : AttrNo} {xs : List Window} {s : State} {w : Nat} {x : Window}
    (hx : xs[w]? = some x) (hr : retired m o x = false)
    (hc : (tickWindow m o z (s.att a).desc ((s.att a).state = .down) w x).state = .closed → x.state = .closed) :
    SameNaming a w s (moveWindows m o z a xs s) := fun i p hn => by
  have stays : ∀ p, s.slots[i].pass = some p → p.names a w = true →
      (moveWindows m o z a xs s).slots[i].pass = some p := fun p hp hn => by
    rw [moveWindows_pass hx hp hn, if_neg (by simp [hr]), if_neg fun hcl => hcl.2.1 (hc hcl.2.2)]
  refine ⟨fun hp' => ?_, fun hp => stays p hp hn⟩
  obtain ⟨q, hq, hqn⟩ := pass_of_moveWindows hp' hn
  rwa [hq, ← stays q hq hqn]

/-- A window that agrees with the pass table agrees after the Book's work: what opens had ISSUED passes alone, what closes
keeps REDEEMED and EXPIRED ones, what retires keeps none (R115, R126, R128). -/
theorem Window.Agrees.ticks {m o z : Nat} {a : AttrNo} {xs : List Window} {s : State} {w : Nat} {x : Window}
    (h : x.Agrees s a w) (hx : xs[w]? = some x) :
    (tickWindow m o z (s.att a).desc ((s.att a).state = .down) w x).Agrees (moveWindows m o z a xs s) a w := by
  have hpass : ∀ (i : SlotNo) p, s.slots[i].pass = some p → p.names a w = true → _ := fun i p =>
    moveWindows_pass (m := m) (o := o) (z := z) (i := i) (p := p) hx
  have hkeep := moveWindows_sameNaming_self (m := m) (o := o) (z := z) (a := a) (s := s) hx
  have ht := tickWindow_ticked m o z (s.att a) w x
  generalize tickWindow m o z (s.att a).desc ((s.att a).state = .down) w x = y at ht hpass hkeep
  cases ht with
  | stays hr => exact h.same (hkeep hr id)
  | opens st hs hst =>
    have hsame := hkeep (by simp [retired, hs]) (by rcases hst with rfl | rfl <;> simp)
    have hnone : x.endedAt.isSome = false := by simpa [hs] using h.ended
    refine h.moves rfl rfl (by rcases hst with rfl | rfl <;> simp [hnone]) (fun i p hp hn => ?_) fun _ =>
      ⟨by simp [Window.live, hs], hsame⟩
    have hissued := h.fits i p ((hsame i p hn).mp hp) hn
    rw [hs, fits_future] at hissued
    rcases hst with rfl | rfl <;> simp [hissued]
  | closes hs =>
    have hr : retired m o x = false := by rcases hs with hs | hs <;> simp [retired, hs]
    have hopen : x.state ≠ .closed := by rcases hs with hs | hs <;> simp [hs]
    refine h.moves rfl rfl (by simp) (fun i p' hp' hn => ?_) fun hl => by simp [Window.live] at hl
    obtain ⟨p, hp, hpn⟩ := pass_of_moveWindows hp' hn
    have hf := h.fits i p hp hpn
    rw [hpass i p hp hpn, if_neg (by simp [hr])] at hp'
    split at hp'
    · cases hp'
      rfl
    · next hc =>
      cases hp'
      have hnot : p'.state ≠ .issued := fun hi => hc ⟨hi, hopen, rfl⟩
      rcases hs with hs | hs <;> rw [hs] at hf <;> simp_all
  | retires hr =>
    have he : x.endedAt.isSome = true := h.ended.mpr (by rcases ((retired_iff ..).mp hr).1 with hs | hs <;> simp [hs])
    refine h.moves rfl rfl (by simp [he]) (fun i p' hp' hn => ?_) fun hl => by simp [Window.live] at hl
    obtain ⟨p, hp, hpn⟩ := pass_of_moveWindows hp' hn
    rw [hpass i p hp hpn, if_pos hr] at hp'
    cases hp'

theorem TableSound.moveWindows {s : State} (h : TableSound s) (m o z : Nat) (a : AttrNo) (xs : List Window) :
    TableSound (moveWindows m o z a xs s) := by
  have hmoved : TableSound (movedBook m o z a xs s) := by
    refine foldl_keeps (f := fun s w => s.freeWhere (Pass.names a w)) (P := TableSound) (fun _ _ hb => hb.freeWhere _) _ _ ?_
    refine TableSound.retag ?_ _ (by simp)
    exact h.same ⟨rfl, rfl⟩ id
  rw [moveWindows_eq]
  split
  · exact hmoved.same ⟨rfl, rfl⟩ id
  · exact hmoved

theorem BookSound.recomputeOffer {s : State} (h : BookSound s) (a : AttrNo) : BookSound (recomputeOffer a s) := by
  have hatt : ∀ b, (Machine.recomputeOffer a s).att b =
      { s.att b with offer := ((Machine.recomputeOffer a s).att b).offer } :=
    fun b => by
      by_cases hb : b = a
      · subst hb; rw [recomputeOffer_att_self]
      · rw [recomputeOffer_att_ne _ hb]
  exact h.same ⟨⟨rfl, rfl, rfl⟩, ⟨rfl, rfl⟩, fun b => by rw [hatt], fun b => by rw [hatt]; rfl, fun b => by rw [hatt]⟩

theorem BookSound.bookWork {s : State} (h : BookSound s) (m : Nat) (a : AttrNo) : BookSound (bookWork m a s) := by
  unfold Machine.bookWork
  split
  · next o z xs _ _ hxs =>
    split
    · refine BookSound.recomputeOffer (h.one (h.tableSound.moveWindows m o z a xs) (moveWindows_frame ..)
        (fun b => moveWindows_att m o z a b xs s) (fun b hb w => moveWindows_sameNaming hb xs s w) ?_) a
      refine (h.agrees a).changed (eases_of_same (moveWindows_frame ..)) rfl (fun _ => rfl) (tickedList m o z (s.att a))
        (tickWindow m o z (s.att a).desc ((s.att a).state = .down)) (by simp [hxs]) (getElem?_tickedList m o z (s.att a))
        (fun w x hx hxa => hxa.ticks (list_of_windows hxs ▸ hx)) fun i p hp hpa => ?_
      rw [moveWindows_slot] at hp
      obtain ⟨q, hq, ha, hw⟩ := pass_of_ticked hp
      exact hw ▸ (h.agrees a).list.named i q hq (ha.trans hpa)
    · exact h
  · exact h

/-! ## The frame's work and the Estimator's -/

theorem BookSound.openFrameDay {s : State} (h : BookSound s) (hd : s.day = .armed) : BookSound (openFrameDay s) := by
  have he : Eases s (Machine.openFrameDay s) := ⟨fun _ => ⟨.inl hd, rfl, rfl⟩, fun h => by simp at h⟩
  refine (bookSound_iff _).mpr ⟨h.tableSound.closed ⟨rfl, rfl⟩ (by simp [hd]), fun a => ?_⟩
  rw [openFrameDay_att]
  exact (h.agrees a).same he (fun _ => .of_slots rfl) rfl rfl rfl

/-- At the frame's end every slot is free and no window is live (R101, R129). -/
theorem BookSound.endFrame {s : State} (h : BookSound s) (m : Nat) : BookSound (endFrame m s) := by
  have hnone : ∀ i : SlotNo, (Machine.endFrame m s).slots[i].pass = none := fun i => by rw [endFrame_slot]
  have hqueue : QueueLaw (Machine.endFrame m s) := by
    obtain ⟨once, free⟩ := (h.tableSound.freeWhere fun _ => true).queue
    have hq : (Machine.endFrame m s).freeQueue = (s.freeWhere fun _ => true).freeQueue := rfl
    have hs : (Machine.endFrame m s).slots = (s.freeWhere fun _ => true).slots := rfl
    exact ⟨hq ▸ once, by rw [hq, hs]; exact free⟩
  have htable : TableSound (Machine.endFrame m s) :=
    ⟨hqueue, fun _ => hnone, fun i r hr => (nomatch (hnone i).symm.trans hr), fun i r hr =>
      (nomatch (hnone i).symm.trans hr)⟩
  have he : Eases s (Machine.endFrame m s) := ⟨fun h => by simp [State.going] at h, fun h => by simp at h⟩
  refine (bookSound_iff _).mpr ⟨htable, fun a => ?_⟩
  rw [endFrame_att]
  refine (h.agrees a).changed he rfl (fun _ => rfl) (List.map (endWindow m)) (fun _ => endWindow m) rfl (by simp)
    (fun w x _ hx => ?_)
    fun i p hp => nomatch (hnone i).symm.trans hp
  rw [endWindow_eq]
  refine hx.moves rfl rfl ?_ (fun i p hp => nomatch (hnone i).symm.trans hp) fun hl => by simp [Window.live] at hl
  have := hx.ended
  cases hs : x.state <;> simp_all

theorem BookSound.frameWork {s : State} (h : BookSound s) (m : Nat) : BookSound (frameWork m s) := by
  obtain ⟨hw, -⟩ | ⟨hw, hd, -⟩ | ⟨hw, -⟩ := frameWork_cases m s <;> rw [hw]
  · exact h
  · exact (h.openFrameDay hd).sameRecords ⟨rfl, rfl, rfl⟩ ⟨rfl, rfl⟩ rfl
  · exact (h.endFrame m).sameRecords ⟨rfl, rfl, rfl⟩ ⟨rfl, rfl⟩ rfl

theorem SameTerms.inUse {r x : Attraction} (h : SameTerms r x) : x.inUse = r.inUse := by
  rw [Attraction.inUse, h.state, Attraction.inUse]

theorem BookSound.estimatorWork {s : State} (h : BookSound s) (m : Nat) (a : AttrNo) : BookSound (estimatorWork m a s) := by
  have he := estimate_sameTerms s.o m (s.att a)
  have hatt : ∀ b, ((Machine.estimatorWork m a s).att b).inUse = (s.att b).inUse ∧
      ((Machine.estimatorWork m a s).att b).desc = (s.att b).desc := fun b => by
    obtain hb | ⟨rfl, ⟨hb, -⟩ | hb⟩ := estimatorWork_att m a b s <;> rw [hb]
    · exact ⟨rfl, rfl⟩
    · exact ⟨he.inUse, he.desc⟩
    · exact ⟨he.inUse, he.desc⟩
  have hs := estimatorWork_stays m a s
  exact h.same ⟨hs.frame, hs.passes, hs.windows, fun b => (hatt b).1, fun b => by rw [(hatt b).2]⟩

theorem BookSound.settle {s : State} (h : BookSound s) : BookSound (settle s) :=
  h.sameRecords ⟨rfl, rfl, rfl⟩ ⟨rfl, rfl⟩ rfl

/-- Every work of a tick keeps the laws of the book. -/
theorem BookSound.tickWork {s : State} (h : BookSound s) (m : Nat) (w : TickWork) : BookSound (tickWork m w s) := by
  cases w with
  | frame => exact h.frameWork m
  | estimator a => exact h.estimatorWork m a
  | book a => exact h.bookWork m a

theorem BookSound.secondTick {s : State} (h : BookSound s) : BookSound (secondTick s) := by
  have hs := clockTick_stays s
  have hc : BookSound (clockTick s) := h.sameRecords hs.frame hs.passes (clockTick_attractions s)
  unfold Machine.secondTick
  refine BookSound.settle ?_
  split
  · exact foldl_keeps (P := BookSound) (fun _ w hb => (hb.tickWork _ w).settle) _ _
      (hc.sameRecords ⟨rfl, rfl, rfl⟩ ⟨rfl, rfl⟩ rfl)
  · exact hc

/-! ## A sample of the lines -/

theorem applyEntry_sameTerms (n : Nat) (r : Attraction) : SameTerms r (applyEntry n r) := by
  unfold applyEntry
  split <;> exact ⟨rfl, rfl, rfl, rfl⟩

theorem applyDispatch_sameTerms (n : Nat) (r : Attraction) : SameTerms r (applyDispatch n r) := by
  unfold applyDispatch
  split <;> exact ⟨rfl, rfl, rfl, rfl⟩

theorem count_sameTerms (b : Binding) (r : Attraction) : SameTerms r (b.count r) := by
  unfold Binding.count
  split
  · exact applyEntry_sameTerms ..
  · exact applyDispatch_sameTerms ..

/-- A record that keeps its state, its descriptor and its list leaves the laws of the book as they are. -/
theorem BookSound.updAtt {s : State} (h : BookSound s) (a : AttrNo) {f : Attraction → Attraction}
    (hf : SameTerms (s.att a) (f (s.att a))) : BookSound (s.updAtt a f) :=
  h.one (h.tableSound.same ⟨rfl, rfl⟩ id) ⟨rfl, rfl, rfl⟩ (fun b => att_updAtt s a b f) (fun _ _ _ => .of_slots rfl)
    ((h.agrees a).same (eases_of_same ⟨rfl, rfl, rfl⟩) (fun _ => .of_slots rfl) hf.windows hf.inUse (by rw [hf.desc]))

theorem BookSound.lineWork {s : State} (h : BookSound s) (levels : Levels) (l : LineNo) :
    BookSound (lineWork levels l s) := by
  have hl : ∀ x, BookSound (s.setLine l x) := fun x => h.sameRecords ⟨rfl, rfl, rfl⟩ ⟨rfl, rfl⟩ rfl
  unfold Machine.lineWork
  simp only [applyCount_eq]
  split
  · split
    · exact (hl _).updAtt _ (count_sameTerms ..)
    · exact hl _
  · exact hl _

theorem BookSound.sampleLines {s : State} (h : BookSound s) (levels : Levels) : BookSound (sampleLines levels s) :=
  foldl_keeps (P := BookSound) (fun _ l hb => (hb.lineWork levels l).settle) _ _
    (h.sameRecords ⟨rfl, rfl, rfl⟩ ⟨rfl, rfl⟩ rfl)

end Sys2Proof.Machine
end

section
/-! PROOFS. The rows of the frame and of the attraction table, and the book's laws (R9 to R15, R23 to R35, R89 to R93, R99,
R100, R104, R127). -/

namespace Sys2Proof.Machine

/-! ## The frame pair and CLEAR_DAY -/

theorem BookSound.unheld {s : State} (h : BookSound s) (hd : s.day ≠ .opened) (i : SlotNo) : s.slots[i].pass = none :=
  h.tableSound.table hd i

/-- No pass names an attraction where the table is empty. -/
theorem no_pass_names {s : State} (he : ∀ i : SlotNo, s.slots[i].pass = none) (a : AttrNo) (i : SlotNo) (p : Pass)
    (hp : s.slots[i].pass = some p) : p.attraction ≠ a := by
  rw [he i] at hp
  cases hp

/-- A confirmation builds a list for every attraction in use, in a frame that holds no pass (R89, R90). -/
theorem BookSound.confirm {s : State} (h : BookSound s) (hd : s.day = .half) (o z : Nat) : BookSound (confirm o z s) := by
  have hnone := h.unheld (by simp [hd])
  have hday : (Machine.confirm o z s).going := by
    unfold State.going Machine.confirm
    simp only [raiseAll_day, raiseWindow_day, recomputeOffers_day, mapAtts_day]
    split <;> simp
  refine (bookSound_iff _).mpr ⟨h.tableSound.closed ⟨rfl, rfl⟩ (by simp [hd]), fun a => ?_⟩
  rw [confirm_att]
  by_cases hu : (s.att a).state = .unused
  · rw [buildFor_unused hu]
    exact .listless ((h.agrees a).unused ((inUse_eq_false _).mpr hu)) (fun _ => (inUse_eq_false _).mpr hu)
      (no_pass_names hnone a)
  · rw [buildFor_inUse hu]
    exact .built hday ((inUse_iff _).mpr hu) rfl (built_spec ..) rfl rfl rfl (no_pass_names hnone a)

/-- A state without a list, in a frame that asks for none and holds no pass. -/
theorem BookSound.emptied {s t : State} (h : BookSound s) (hd : s.day ≠ .opened) (hp : Part.passes.same s t)
    (hg : ¬ t.going) (hw : ∀ a, (t.att a).windows = none) : BookSound t := by
  have hnone : ∀ i : SlotNo, t.slots[i].pass = none := by
    rw [hp.1]
    exact h.unheld hd
  exact (bookSound_iff _).mpr ⟨h.tableSound.closed hp hd, fun a =>
    .listless (hw a) (fun hgo => absurd hgo hg) (no_pass_names hnone a)⟩

/-- A write of O or Z leaves a frame without its pair, and an empty book (R9, R11). -/
theorem BookSound.written {s t : State} (h : BookSound s) (hd : s.day = .unset ∨ s.day = .half)
    (hp : Part.passes.same s t) (ht : t.day = .half) (ha : t.attractions = s.attractions) : BookSound t :=
  h.emptied (by rcases hd with hd | hd <;> simp [hd]) hp (by simp [State.going, ht]) fun a => by
    rw [att_congr ha]
    exact (h.agrees a).idle hd

theorem BookSound.writeOpen {s : State} (h : BookSound s) (o : Nat) : BookSound (writeOpen o s) := by
  cases hd : s.day with
  | armed =>
    rw [writeOpen_armed o hd]
    refine h.emptied (by simp [hd]) ⟨rfl, rfl⟩ (by simp [State.going]) fun a => ?_
    rw [raiseAll_att, emptyBook_att]
  | unset =>
    rw [writeOpen_unset o hd]
    exact h.written (.inl hd) ⟨rfl, rfl⟩ rfl rfl
  | half =>
    rw [writeOpen_half o hd]
    exact h.written (.inr hd) ⟨rfl, rfl⟩ hd rfl
  | opened => simpa [Machine.writeOpen, hd] using h
  | ended => simpa [Machine.writeOpen, hd] using h

theorem BookSound.writeClose {s : State} (h : BookSound s) (z : Nat) : BookSound (writeClose z s) := by
  cases hd : s.day with
  | armed =>
    rw [writeClose_armed z hd]
    refine h.emptied (by simp [hd]) ⟨rfl, rfl⟩ (by simp [State.going]) fun a => ?_
    rw [raiseAll_att, emptyBook_att]
  | unset =>
    rw [writeClose_unset z hd]
    exact h.written (.inl hd) ⟨rfl, rfl⟩ rfl rfl
  | half =>
    rw [writeClose_half z hd]
    exact h.written (.inr hd) ⟨rfl, rfl⟩ hd rfl
  | opened => simpa [Machine.writeClose, hd] using h
  | ended => simpa [Machine.writeClose, hd] using h

theorem BookSound.clearDay {s : State} (h : BookSound s) (hd : s.day ≠ .opened) : BookSound (clearDay s) := by
  refine h.emptied hd ⟨by simp [Machine.clearDay], by simp [Machine.clearDay]⟩ (by simp [State.going]) fun a => ?_
  rw [clearDay_att, clearRecord_eq]
  split <;> rfl

/-! ## The move of Z -/

/-- A window that a shortening removes is FUTURE and unbooked, so no pass names it (R92). -/
theorem ListAgrees.unnamed_of_unbooked {s : State} {a : AttrNo} {ws : List Window} (h : ListAgrees s a ws)
    (ht : TableSound s) {n : Nat} (hn : ∀ w x, n ≤ w → ws[w]? = some x → x.state = .future ∧ x.booked = 0)
    (i : SlotNo) (p : Pass) (hp : s.slots[i].pass = some p) (ha : p.attraction = a) : p.window < n := by
  by_contra hle
  have hx := List.getElem?_eq_getElem (h.named i p hp ha)
  obtain ⟨hs, hb⟩ := hn _ _ (Nat.le_of_not_lt hle) hx
  have hw := h.windows _ _ hx
  have hissued : p.state = .issued := by
    have hf := hw.fits i p hp ((names_iff ..).mpr ⟨ha, rfl⟩)
    rwa [hs, fits_future] at hf
  have hsum := hw.booked (by simp [Window.live, hs])
  have hparty := party_le_parties hp (which := fun st => st = .issued || st = .redeemed) (by simp [hissued])
  have := (ht.party i p hp).1
  rw [ha] at hparty
  omega

theorem newWindow_agrees {s : State} {a : AttrNo} {w : Nat} (d : Descriptor)
    (hn : ∀ (i : SlotNo) r, s.slots[i].pass = some r → r.names a w = false) : (newWindow d).Agrees s a w :=
  .unnamed (Nat.le_refl _) (fun _ => rfl) (by simp [newWindow]) hn

/-- A list lengthened by FUTURE windows, or cut where no window is in use, agrees as it did (R91, R92). -/
theorem ListAgrees.resized {s t : State} {a : AttrNo} {ws : List Window} (h : ListAgrees s a ws) (ht : TableSound s)
    (hs : t.slots = s.slots) {o z : Nat} {d : Descriptor} {later : Bool}
    (hcut : later = false → ∀ w x, windowCount o z d ≤ w → ws[w]? = some x → x.state = .future ∧ x.booked = 0) :
    ListAgrees t a (Machine.resized o z d later ws) := by
  have same : ∀ w, SameNaming a w s t := fun w => .of_slots hs
  cases later with
  | true =>
    refine ⟨fun w x hx => ?_, fun i p hp ha => ?_⟩
    · rw [Machine.resized, if_pos rfl, List.getElem?_append] at hx
      split at hx
      · exact (h.windows w x hx).same (same w)
      · next hw =>
        rw [List.getElem?_replicate] at hx
        split at hx
        · cases hx
          refine newWindow_agrees d fun i r hr => Bool.eq_false_iff.mpr fun hn => ?_
          obtain ⟨ha, rfl⟩ := (names_iff ..).mp hn
          exact hw (h.named i r (hs ▸ hr) ha)
        · cases hx
    · have := h.named i p (hs ▸ hp) ha
      rw [Machine.resized, if_pos rfl, List.length_append]
      omega
  | false =>
    refine ⟨fun w x hx => ?_, fun i p hp ha => ?_⟩
    · rw [Machine.resized, if_neg (by simp), List.getElem?_take] at hx
      split at hx
      · exact (h.windows w x hx).same (same w)
      · cases hx
    · have := h.named i p (hs ▸ hp) ha
      have := h.unnamed_of_unbooked ht (hcut rfl) i p (hs ▸ hp) ha
      rw [Machine.resized, if_neg (by simp), List.length_take]
      omega

theorem windowCount_mono (o : Nat) {y z : Nat} (d : Descriptor) (h : y ≤ z) : windowCount o y d ≤ windowCount o z d := by
  have := Nat.div_le_div_right (c := d.length) (Nat.sub_le_sub_right h o)
  unfold windowCount
  omega

theorem length_resized (o z : Nat) (d : Descriptor) (later : Bool) (ws : List Window) :
    (Machine.resized o z d later ws).length =
      if later then max ws.length (windowCount o z d) else min (windowCount o z d) ws.length := by
  unfold Machine.resized
  split
  · rw [List.length_append, List.length_replicate]
    omega
  · rw [List.length_take]

theorem BookSound.moveClose {s : State} (h : BookSound s) (hd : s.day = .opened) {z : Nat}
    (hcut : z < s.z → s.attractions.toList.any (cutInUse s.o z) = false) : BookSound (moveClose z s) := by
  by_cases hz : z = s.z
  · rw [moveClose_same hz]
    exact h
  have hgoing : s.going := .inr hd
  have hfree : decide (s.z < z) = false → ∀ a w x, windowCount s.o z (s.att a).desc ≤ w → (s.att a).window w = some x →
      x.state = .future ∧ x.booked = 0 := fun hlt a w x hw hx => by
    have hc : cutInUse s.o z (s.att a) ≠ true := fun hc => by
      have := hcut (by simp at hlt; omega)
      rw [Bool.eq_false_iff, ne_eq, any_attractions] at this
      exact this ⟨a, hc⟩
    rw [ne_eq, cutInUse_iff] at hc
    by_contra hn
    exact hc ⟨w, x, hx, hw, by
      by_cases hs : x.state = .future
      · exact .inr (Nat.pos_of_ne_zero fun hb => hn ⟨hs, hb⟩)
      · exact .inl hs⟩
  rw [moveClose_move hz]
  refine (bookSound_iff _).mpr ⟨h.tableSound.same ⟨rfl, rfl⟩ id, fun a => ?_⟩
  rw [raiseWindow_att, resizedDay_att]
  have ha := h.agrees a
  exact {
    going := fun _ => (Option.isSome_map ..).trans (ha.going hgoing)
    idle := fun hidle => by
      have : s.day = .unset ∨ s.day = .half := hidle
      simp [hd] at this
    unused := fun hu => by rw [resizeFor, ha.unused hu]; rfl
    length := fun _ ys hys => by
      obtain ⟨xs, hxs, rfl⟩ := Option.map_eq_some_iff.mp hys
      have hl := ha.length hgoing xs hxs
      show _ = windowCount s.o z (s.att a).desc
      rw [length_resized, hl]
      by_cases hlt : s.z < z
      · have := windowCount_mono s.o (s.att a).desc (Nat.le_of_lt hlt)
        simp only [hlt, decide_true, if_true]
        omega
      · have := windowCount_mono s.o (s.att a).desc (Nat.le_of_not_lt hlt)
        simp only [hlt, decide_false, Bool.false_eq_true, if_false]
        omega
    list := by
      have hl := ha.list
      have hslots : ∀ hit, (raiseWindow hit (resizedDay z s)).slots = s.slots := fun _ => rfl
      have hlist : ∀ w, (s.att a).window w = ((s.att a).windows.getD [])[w]? := fun _ => rfl
      rw [Attraction.list] at hl ⊢
      rw [resizeFor]
      cases hws : (s.att a).windows with
      | none =>
        rw [hws] at hl
        exact hl.changed (fun _ => id) (by simp) (fun w _ _ hx => hx.same (.of_slots rfl)) hl.named
      | some ws =>
        rw [hws] at hl hlist
        exact hl.resized h.tableSound (hslots _) fun hlt w x hw hx => hfree hlt a w x hw ((hlist w).trans hx) }

theorem frame_body_bookSound {s : State} (h : BookSound s) (p : PortNo) (args : List Byte) :
    Leaves BookSound (frameOpenBody p args s) ∧ Leaves BookSound (frameCloseBody p args s) ∧
      Leaves BookSound (clearDayBody p args s) := by
  unfold frameOpenBody frameCloseBody clearDayBody
  simp only []
  refine ⟨?_, ?_, ?_⟩ <;> repeat' split
  all_goals simp only [leaves_reject, leaves_accept, h.writeOpen, h.writeClose]
  · next ho _ _ => exact h.confirm (otherMinute_eq_some ho).1 _ _
  · next ho _ _ => exact h.confirm (otherMinute_eq_some ho).1 _ _
  · next hd hc =>
    exact h.moveClose hd fun hlt => by simpa [hlt] using hc
  · next hd => exact h.clearDay hd

/-! ## CONFIGURE and RELEASE -/

/-- No pass names an attraction that has no window. -/
theorem Attraction.Agrees.unnamed {s : State} {a : AttrNo} {r : Attraction} (h : r.Agrees s a) (hw : r.windows = none)
    (i : SlotNo) (p : Pass) (hp : s.slots[i].pass = some p) : p.attraction ≠ a := fun ha => by
  have := h.list.named i p hp ha
  simp [Attraction.list, hw] at this

theorem BookSound.configureNew {s : State} (h : BookSound s) {a : AttrNo} (hu : (s.att a).state = .unused)
    (d : Descriptor) : BookSound (configureNew a d s) := by
  have hk := configureNew_keepsBut a d s
  have hp := hk .passes (by simp)
  have hf := hk .frame (by simp)
  have hs := hp.1
  have hnone := (h.agrees a).unnamed ((h.agrees a).unused ((inUse_eq_false _).mpr hu))
  refine h.one (h.tableSound.same hp fun hd => hf.1 ▸ hd) hf (fun b => configureNew_att a b d s)
    (fun _ _ _ => .of_slots hs) ?_
  have hn : ∀ (i : SlotNo) p, (Machine.configureNew a d s).slots[i].pass = some p → p.attraction ≠ a := by
    rw [hs]
    exact hnone
  have hgo : (Machine.configureNew a d s).going ↔ s.day = .armed ∨ s.day = .opened := by rw [State.going, hf.1]
  by_cases hg : s.day = .armed ∨ s.day = .opened
  · have hb := built_spec (decide (s.day = .opened)) s.now s.o s.z d false
    refine .built (hgo.mpr hg) rfl ?_ hb (by rw [State.o, hf.2.1, State.o]) (by rw [State.z, hf.2.2, State.z]) rfl hn
    rw [firstList_eq, if_pos hg]
  · refine .listless ?_ (fun hgo' => absurd (hgo.mp hgo') hg) hn
    rw [firstList_eq, if_neg hg]

theorem requota_agrees {s t : State} {a : AttrNo} {w : Nat} {x : Window} (h : x.Agrees s a w) (hs : t.slots = s.slots)
    (d : Descriptor) : (requota d x).Agrees t a w := by
  unfold requota
  split
  · exact h.moves rfl rfl h.ended (fun i r hr => h.fits i r (hs ▸ hr)) fun hl => ⟨hl, .of_slots hs⟩
  · exact h.same (.of_slots hs)

/-- The list of a record that CONFIGURE changes stands with new quotas, or is rebuilt in ARMED, where no pass is (R25,
R104). -/
theorem reconfigured_agrees {s t : State} (h : BookSound s) {a : AttrNo} (hu : (s.att a).state ≠ .unused) {d : Descriptor}
    (hl : ¬ ((s.att a).desc.length ≠ d.length ∧ s.started = true)) (hf : Part.frame.same s t) (hs : t.slots = s.slots) :
    (reconfigured s d (s.att a)).Agrees t a := by
  have ha := h.agrees a
  cases hr : rebuilds s (s.att a) d with
  | true =>
    have hr' := hr
    rw [rebuilds_iff, Bool.and_eq_true, decide_eq_true_eq, decide_eq_true_eq] at hr
    have hnone := h.unheld (by simp [hr.2])
    exact .built (.inl (hf.1.trans hr.2)) ((inUse_iff _).mpr hu) (if_pos hr') (built_spec false s.now s.o s.z d false)
      (by rw [State.o, hf.2.1, State.o]) (by rw [State.z, hf.2.2, State.z]) rfl (no_pass_names (by rwa [hs]) a)
  | false =>
    have hlen : t.going → d.length = (s.att a).desc.length := fun hg => by
      by_contra hne
      rw [rebuilds_iff, Bool.and_eq_false_iff, decide_eq_false_iff_not, decide_eq_false_iff_not] at hr
      rw [State.going, hf.1] at hg
      rw [started_iff] at hl
      exact hg.elim (hr.resolve_left (not_not.mpr (Ne.symm hne))) fun ho => hl ⟨Ne.symm hne, .inl ho⟩
    refine ha.changed (eases_of_same hf) rfl hlen (List.map (requota d)) (fun _ => requota d) ?_ (by simp)
      (fun w x _ hx => requota_agrees hx hs d) fun i p hp => ha.list.named i p (hs ▸ hp)
    rw [reconfigured, hr]
    rfl

theorem BookSound.configureUsed {s : State} (h : BookSound s) {a : AttrNo} (hu : (s.att a).state ≠ .unused)
    {d : Descriptor} (hl : ¬ ((s.att a).desc.length ≠ d.length ∧ s.started = true)) : BookSound (configureUsed a d s) := by
  have hk := configureUsed_keepsBut a d s
  have hp := hk .passes (by simp)
  have hf := hk .frame (by simp)
  have hr := reconfigured_agrees h hu hl hf hp.1
  refine h.one (h.tableSound.same hp fun hd => hf.1 ▸ hd) hf (fun b => configureUsed_att a b d s)
    (fun _ _ _ => .of_slots hp.1) ?_
  split
  · exact hr.same ⟨fun hg => ⟨hg, rfl, rfl⟩, id⟩ (fun _ => .of_slots rfl) rfl rfl rfl
  · exact hr

theorem configureBody_bookSound {s : State} (h : BookSound s) (p : PortNo) (args : List Byte) :
    Leaves BookSound (configureBody p args s) := by
  unfold configureBody
  simp only []
  repeat' split
  all_goals simp only [leaves_reject, leaves_accept]
  · next hu => exact h.configureNew hu _
  · next hu hl => exact h.configureUsed hu hl

/-- RELEASE is refused while a pass names the attraction, so the record it clears is named by none (R29, R30). -/
theorem BookSound.releaseEffect {s : State} (h : BookSound s) {a : AttrNo} (hn : s.namesPass a = false) :
    BookSound (releaseEffect a s) := by
  refine h.one (h.tableSound.same ⟨rfl, rfl⟩ id) ⟨rfl, rfl, rfl⟩ (fun b => releaseEffect_att a b s)
    (fun _ _ _ => .of_slots rfl) (.listless rfl (fun _ => rfl) fun i p hp ha => ?_)
  rw [Bool.eq_false_iff, ne_eq, namesPass_iff] at hn
  exact hn ⟨i, p, hp, ha⟩

/-! ## SET_STATE -/

theorem inUse_of_ne {r x : Attraction} (hr : r.state ≠ .unused) (hx : x.state ≠ .unused) : x.inUse = r.inUse :=
  ((inUse_iff _).mpr hx).trans ((inUse_iff _).mpr hr).symm

theorem BookSound.toOperating {s : State} (h : BookSound s) {a : AttrNo} (hu : (s.att a).state ≠ .unused)
    {setUp : Attraction → Attraction} (hs : setUp = opening ∨ setUp = recovering) : BookSound (toOperating setUp a s) := by
  refine h.one (h.tableSound.same ⟨rfl, rfl⟩ id) ⟨rfl, rfl, rfl⟩ (fun b => toOperating_att setUp a b s)
    (fun _ _ _ => .of_slots rfl) ?_
  have hstate : (setUp (s.att a)).state ≠ .unused := by rcases hs with rfl | rfl <;> simp [opening, recovering]
  rcases hs with rfl | rfl <;>
    exact (h.agrees a).same ⟨fun hg => ⟨hg, rfl, rfl⟩, id⟩ (fun _ => .of_slots rfl) rfl (inUse_of_ne hu hstate) rfl

/-- The passes of an OPEN window may all name a SLIPPED one (R99, R115). -/
theorem slipWindow_agrees {s t : State} {a : AttrNo} {w : Nat} {x : Window} (h : x.Agrees s a w) (hs : t.slots = s.slots) :
    (slipWindow x).Agrees t a w := by
  unfold slipWindow
  split
  · next ho =>
    have hnone : x.endedAt.isSome = false := by simpa [ho] using h.ended
    refine h.moves rfl rfl (by simp [hnone]) (fun i r hr hn => ?_) fun _ => ⟨by simp [Window.live, ho], .of_slots hs⟩
    have hf := h.fits i r (hs ▸ hr) hn
    rw [ho, fits_opened] at hf
    exact (fits_slipped _).mpr hf
  · exact h.same (.of_slots hs)

theorem BookSound.toDown {s : State} (h : BookSound s) {a : AttrNo} (hu : (s.att a).state ≠ .unused) :
    BookSound (toDown a s) := by
  have hk := toDown_keepsBut a s
  have hp := hk .passes (by simp)
  have hf := hk .frame (by simp)
  refine h.one (h.tableSound.same hp fun hd => hf.1 ▸ hd) hf (fun b => toDown_att a b s) (fun _ _ _ => .of_slots hp.1) ?_
  exact (h.agrees a).changed (eases_of_same hf) (inUse_of_ne hu (by simp)) (fun _ => rfl) (List.map slipWindow)
    (fun _ => slipWindow) rfl (by simp) (fun w x _ hx => slipWindow_agrees hx hp.1) fun i p hp' =>
      (h.agrees a).list.named i p (hp.1 ▸ hp')

/-- A pass after a close came from a pass of the same attraction and window (R127). -/
theorem pass_of_toClosed {a : AttrNo} {s : State} {i : SlotNo} {p' : Pass} (h : (toClosed a s).slots[i].pass = some p') :
    ∃ p, s.slots[i].pass = some p ∧
      p' = if p.state = .issued ∧ voidsPass s a p = true then { p with state := .voided } else p := by
  rw [toClosed_slot] at h
  exact retagIf_pass_eq_some h

/-- A pass taken to another state names what it did. -/
theorem retagged_keeps {c : Prop} [Decidable c] (p : Pass) (st : PassState) :
    (if c then { p with state := st } else p).attraction = p.attraction ∧
      (if c then { p with state := st } else p).window = p.window := by
  split <;> exact ⟨rfl, rfl⟩

theorem names_retagged {c : Prop} [Decidable c] (p : Pass) (st : PassState) (a : AttrNo) (w : Nat) :
    (if c then { p with state := st } else p).names a w = p.names a w := by
  split <;> rfl

/-- The passes of a window that a close does not void are left alone. -/
theorem toClosed_sameNaming {a b : AttrNo} {s : State} {w : Nat}
    (h : ∀ p : Pass, p.names b w = true → voidsPass s a p = false) : SameNaming b w s (toClosed a s) := fun i r hn => by
  constructor
  · intro hr
    obtain ⟨p, hp, rfl⟩ := pass_of_toClosed hr
    rw [names_retagged] at hn
    rw [if_neg (by simp [h p hn]), hp]
  · intro hr
    rw [toClosed_slot, retagIf_pass hr, if_neg (by simp [h r hn])]

/-- A live window is VOID after a close, its ISSUED passes VOIDED; no pass of a FUTURE one is REDEEMED (R100, R115, R127). -/
theorem voidWindow_agrees {s : State} {a : AttrNo} {w : Nat} {x : Window} (h : x.Agrees s a w)
    (hx : (s.att a).window w = some x) : (voidWindow s.now x).Agrees (toClosed a s) a w := by
  unfold voidWindow
  split
  · next hl =>
    refine h.moves rfl rfl (by simp) (fun i p' hp' hn => ?_) fun hv => by simp [Window.live] at hv
    obtain ⟨p, hp, rfl⟩ := pass_of_toClosed hp'
    rw [names_retagged] at hn
    have hf := h.fits i p hp hn
    obtain ⟨rfl, rfl⟩ := (names_iff ..).mp hn
    have hv : voidsPass s p.attraction p = true := by simp [voidsPass, hx, hl]
    rw [live_iff] at hl
    by_cases hi : p.state = .issued
    · simp [hv, hi]
    · rw [if_neg fun hc => hi hc.1]
      rcases hl with hs | hs | hs <;> rw [hs] at hf <;> simp_all
  · next hl =>
    refine h.same (toClosed_sameNaming fun p hn => ?_)
    obtain ⟨rfl, rfl⟩ := (names_iff ..).mp hn
    simp [voidsPass, hx, hl]

theorem BookSound.toClosed {s : State} (h : BookSound s) {a : AttrNo} (hu : (s.att a).state ≠ .unused) :
    BookSound (toClosed a s) := by
  have hk := toClosed_keepsBut a s
  have hf := hk .frame (by simp)
  have hs : (Machine.toClosed a s).slots = (s.retag (voidsPass s a) .voided).slots := changeWindows_slots ..
  have hq : (Machine.toClosed a s).freeQueue = s.freeQueue := by simp [Machine.toClosed]
  have ht : TableSound (Machine.toClosed a s) :=
    (h.tableSound.retag (voidsPass s a) (st := .voided) (by simp)).same ⟨hs, hq⟩ fun hd => hf.1 ▸ hd
  refine h.one ht hf (fun b => toClosed_att a b s) (fun b hb w => toClosed_sameNaming fun p hn => ?_) ?_
  · obtain ⟨rfl, rfl⟩ := (names_iff ..).mp hn
    simp [voidsPass, hb]
  · refine (h.agrees a).changed (eases_of_same hf) (inUse_of_ne hu (by simp)) (fun _ => rfl)
      (List.map (voidWindow s.now)) (fun _ => voidWindow s.now) rfl (by simp)
      (fun w x hx hxa => voidWindow_agrees hxa hx) fun i p' hp' ha => ?_
    obtain ⟨p, hp, rfl⟩ := pass_of_toClosed hp'
    obtain ⟨hattraction, hwindow⟩ := retagged_keeps (c := p.state = .issued ∧ voidsPass s a p = true) p .voided
    rw [hwindow]
    exact (h.agrees a).list.named i p hp (hattraction ▸ ha)

theorem table_body_bookSound {s : State} (h : BookSound s) (p : PortNo) (args : List Byte) :
    Leaves BookSound (releaseBody p args s) ∧ Leaves BookSound (setStateOperatingBody p args s) ∧
      Leaves BookSound (setStateDownBody p args s) ∧ Leaves BookSound (setStateClosedBody p args s) := by
  have used : ∀ {a st}, (s.att a).state = st → st ≠ .unused → (s.att a).state ≠ .unused := fun he hn => he ▸ hn
  unfold releaseBody setStateOperatingBody setStateDownBody setStateClosedBody
  refine ⟨?_, ?_, ?_, ?_⟩ <;> repeat' split
  all_goals simp only [leaves_reject, leaves_accept, h]
  · next hn => exact h.releaseEffect (by simpa using hn)
  · next hs _ => exact h.toOperating (used hs (by simp)) (.inl rfl)
  · next hs => exact h.toOperating (used hs (by simp)) (.inr rfl)
  · next hs => exact h.toDown (used hs (by simp))
  · next hs => exact h.toClosed (used hs (by simp))
  · next hs => exact h.toClosed (used hs (by simp))

end Sys2Proof.Machine
end

section
/-! PROOFS. The list as a port reads it, the window an ISSUE chooses, and a window's retirement (R97, R105, R108, R141). -/

namespace Sys2Proof.Machine

/-! ## READ_WINDOWS -/

/-- The record of one window (R187). -/
def windowRecord (o : Nat) (r : Attraction) (w : Nat) (x : Window) : List Byte :=
  windowBytes w (windowStart o r.desc w) (windowEnd o r.desc w) x

/-- The records of a list, one for each window (R142). -/
def Attraction.records (o : Nat) (r : Attraction) : List (List Byte) := r.list.mapIdx (windowRecord o r)

theorem windowRecords_eq (o : Nat) (r : Attraction) (first count : Nat) :
    windowRecords o r first count = (((r.records o).drop first).take count).flatten := rfl

theorem getElem?_records {o : Nat} {r : Attraction} {first count n : Nat} {x : List Byte}
    (h : (((r.records o).drop first).take count)[n]? = some x) :
    ∃ y, r.window (first + n) = some y ∧ x = windowRecord o r (first + n) y := by
  rw [List.getElem?_take] at h
  split at h
  · rw [List.getElem?_drop, Attraction.records, List.getElem?_mapIdx, Option.map_eq_some_iff] at h
    obtain ⟨y, hy, rfl⟩ := h
    exact ⟨y, hy, rfl⟩
  · cases h

/-! ## The window choice -/

theorem canBook_iff (o now : Nat) (r : Attraction) (n w : Nat) : canBook o now r n w = true ↔ Bookable o now r n w := by
  unfold canBook Bookable
  cases r.window w with
  | none => simp
  | some x =>
    simp only [Bool.and_eq_true, Bool.or_eq_true, decide_eq_true_eq, and_assoc, Option.some.injEq, exists_eq_left']
    rfl

/-- A window that can be booked stands in the list. -/
theorem Bookable.lt_length {o now : Nat} {r : Attraction} {n w : Nat} (h : Bookable o now r n w) : w < r.list.length := by
  obtain ⟨x, hx, -⟩ := h
  exact (List.getElem?_eq_some_iff.mp hx).1

/-- Mode EARLIEST chooses the first window that can be booked (R105). -/
theorem chooseEarliest_eq_some (o now : Nat) (r : Attraction) (n w : Nat) :
    chooseEarliest o now r n = some w ↔ Bookable o now r n w ∧ ∀ v, v < w → ¬ Bookable o now r n v := by
  rw [chooseEarliest, List.find?_range_eq_some]
  simp only [List.mem_range, canBook_iff, Bool.not_eq_true', Bool.eq_false_iff, ne_eq]
  exact ⟨fun ⟨h, _, hv⟩ => ⟨h, hv⟩, fun ⟨h, hv⟩ => ⟨h, h.lt_length, hv⟩⟩

/-- Mode EARLIEST chooses none where none can be booked. -/
theorem chooseEarliest_eq_none {o now : Nat} {r : Attraction} {n : Nat} (h : ∀ w, ¬ Bookable o now r n w) :
    chooseEarliest o now r n = none := by
  rw [Option.eq_none_iff_forall_ne_some]
  exact fun w hw => h w ((chooseEarliest_eq_some ..).mp hw).1

theorem offerNow_eq_some (s : State) (r : Attraction) (m : Nat) :
    offerNow s r = some m ↔ r.state = .operating ∧ s.day = .opened ∧ 0 < r.desc.share ∧
      ∃ w, chooseEarliest s.o s.now r 1 = some w ∧ m = windowStart s.o r.desc w := by
  unfold offerNow
  split
  · next h =>
    simp only [Bool.and_eq_true, decide_eq_true_eq] at h
    obtain ⟨⟨hs, hd⟩, hp⟩ := h
    simp only [hs, hd, hp, true_and, Option.map_eq_some_iff]
    exact exists_congr fun w => and_congr_right fun _ => eq_comm
  · next h =>
    simp only [Bool.and_eq_true, decide_eq_true_eq, not_and] at h
    exact iff_of_false (by simp) fun ⟨hs, hd, hp, _⟩ => h ⟨hs, hd⟩ hp

/-! ## RETIREMENT -/

/-- RETIREMENT is the minute tick that retires the window (R97; log 4). -/
theorem exec_retirement {s : State} {a : AttrNo} {w : Nat} {x : Window} {o z : Nat} (hdue : s.minuteDue = true)
    (hd : s.day = .armed ∨ s.day = .opened) (ho : s.openMinute = some o) (hz : s.closeMinute = some z)
    (hom : o ≤ s.nextReading.minute) (hmz : s.nextReading.minute < z) (hx : (s.att a).window w = some x)
    (hr : retired s.nextReading.minute o x = true) : exec (.retirement a w) s = exec .minuteTick s := by
  have hn : retiresNext a w s = true := by
    simp [retiresNext, hdue, hd, State.o, State.z, ho, hz, hom, hmz, hx, hr]
  rw [exec_minuteTick hdue]
  exact congrArg Host.Outcome.next (if_pos hn)

end Sys2Proof.Machine

namespace Sys2Proof.Proofs

open Sys2Proof.Machine

/-- Settles O24: the records are those of the list from the first index on. -/
theorem readWindows : Obligations.ReadWindows := by
  intro s p first count hs hsent
  have ht : Takes .readWindows s p [first, count] := takes_any hsent rfl fun _ => rfl
  refine ⟨fun h => ht.refuses ?_, fun h1 h8 => ⟨fun hn => ht.refuses ?_, fun x hx => ⟨fun hg => ht.refuses ?_, fun hg => ?_⟩⟩⟩
  · exact if_pos h
  · simp [Row.body, readWindowsBody, Nat.not_lt.mpr h1, Nat.not_lt.mpr h8, hn]
  · simp [Row.body, readWindowsBody, Nat.not_lt.mpr h1, Nat.not_lt.mpr h8, hx, hg]
  · refine ⟨((((s.att x.attraction).records s.o).drop first.toNat).take count.toNat), ?_,
      fun n r hr => getElem?_records hr, ht.grants ?_ hs⟩
    · simp [Attraction.records]
    · simp [Row.body, readWindowsBody, Nat.not_lt.mpr h1, Nat.not_lt.mpr h8, hx, hg, windowRecords_eq]

/-- Settles O46: the choice finds the first window that can be booked, and the offer is its start. -/
theorem windowChoiceAndOffer : Obligations.WindowChoiceAndOffer := by
  refine ⟨chooseEarliest_eq_some, fun s r m => ?_⟩
  simp only [offerNow_eq_some, chooseEarliest_eq_some, and_assoc]
  rfl

/-- Settles O11: the tick is the one of O9, whose clauses give what becomes of the window, its passes and their slots. -/
theorem retirement : Obligations.Retirement := by
  intro s a w x o z hdue hd ho hz hom hmz hx hs hm
  obtain ⟨t, ht, -, hwindows, hpasses, -, hqueue, -, hfreed, hretiring, -, hflag⟩ :=
    windowsAtMinuteTick.1 s o z _ hdue rfl hd ho hz hom hmz
  obtain ⟨y, hy, hmoved⟩ := hwindows a w x hx
  obtain rfl := hmoved.retires hs hm
  refine ⟨t, ?_, ht, hy, fun i hi => ?_, hqueue, hretiring a, fun q hq => ?_⟩
  · rw [exec_retirement hdue hd ho hz hom hmz hx ((retired_iff ..).mpr ⟨hs, hm⟩), ht]
  · obtain ⟨r, hr, rfl, rfl⟩ := hi
    obtain ⟨hgen, -, hpass⟩ := hpasses i r hr
    have hnone : t.slots[i].pass = none := by
      rw [hpass _ _ hx hy, if_pos ⟨by rcases hs with hs | hs <;> simp [hs], rfl⟩]
    exact ⟨hnone, hgen, (hfreed i).mpr ⟨by rw [hr]; simp, hnone⟩⟩
  · have hne : (t.att a).list.map (·.state) ≠ (s.att a).list.map (·.state) := fun he => by
      have hstates := congrArg (·[w]?) he
      simp only [List.getElem?_map] at hstates
      rw [Attraction.window] at hx hy
      rw [hx, hy] at hstates
      rcases hs with hs | hs <;> simp [hs] at hstates
    rw [State.watches, Port.namesSome] at hq
    rw [hflag]
    cases hsh : (s.port q).shadow with
    | none => simp [hsh] at hq
    | some v =>
      rw [hsh] at hq
      obtain rfl : v.attraction = a := by simpa using hq
      simp [hne]

end Sys2Proof.Proofs
end

section
/-! PROOFS. ISSUE in both modes: its checks in their order, and the slot, the booking and the offer that it writes (R105,
R106, R113 to R120). -/

namespace Sys2Proof.Machine

/-! ## One slot written -/

theorem getElem_set_fin {α : Type} {n : Nat} (v : Vector α n) (i j : Fin n) (x : α) :
    (v.set i x)[j] = if j = i then x else v[j] := by
  simp only [Fin.getElem_fin, Vector.getElem_set, Fin.ext_iff, eq_comm]

theorem freeSlot_slot (s : State) (i j : SlotNo) :
    (s.freeSlot i).slots[j] = if j = i then ⟨s.slots[i].generation, none⟩ else s.slots[j] := getElem_set_fin ..

theorem setPass_slot (s : State) (i j : SlotNo) (r : Pass) :
    (s.setPass i r).slots[j] = if j = i then ⟨s.slots[i].generation, some r⟩ else s.slots[j] := getElem_set_fin ..

/-! ## ISSUE -/

/-- The state with a pass written into the slot at the head of the free queue (R113, R120). -/
def State.withIssue (s : State) (p : PortNo) (a : AttrNo) (w n : Nat) (i : SlotNo) (rest : List SlotNo) : State :=
  recomputeOffer a
    ({ s with
        slots := s.slots.set i ⟨nextGeneration s.slots[i].generation, some (newPass p a w n s)⟩
        freeQueue := rest }.updAtt a fun r => r.updWindow w fun x => { x with booked := x.booked + n })

theorem issueInto_full {s : State} (h : s.freeQueue = []) (p : PortNo) (a : AttrNo) (w n : Nat) :
    issueInto p a w n s = reject .tableFull := by
  simp [issueInto, State.allocate, h]

theorem issueInto_free {s : State} {i : SlotNo} {rest : List SlotNo} (h : s.freeQueue = i :: rest) (p : PortNo)
    (a : AttrNo) (w n : Nat) :
    issueInto p a w n s = accept (s.withIssue p a w n i rest)
      (be16 ((s.slots[i].generation + 1) % 16 * 4096 + i.val) ++ [byte w] ++ be16 (s.o + w * (s.att a).desc.length) ++
        be16 (s.o + w * (s.att a).desc.length + (s.att a).desc.length)) := by
  simp only [issueInto, State.allocate, h]
  rfl

theorem withIssue_sameDay (s : State) (p : PortNo) (a : AttrNo) (w n : Nat) (i : SlotNo) (rest : List SlotNo) :
    SameDay s (s.withIssue p a w n i rest) := ⟨rfl, rfl, rfl, rfl, rfl, rfl⟩

theorem withIssue_issued (s : State) (p : PortNo) (a : AttrNo) (w n : Nat) (i : SlotNo) (rest : List SlotNo) :
    Issued s (s.withIssue p a w n i rest) p a w n i rest where
  queue := rfl
  slot := (getElem_set_fin ..).trans (if_pos rfl)
  slots j hj := (getElem_set_fin ..).trans (if_neg hj)
  others b hb := by
    rw [State.withIssue, recomputeOffer_att_ne _ hb, att_updAtt_ne _ _ hb]
    rfl
  record := by
    rw [State.withIssue, recomputeOffer_att_self, att_updAtt_self]
    rfl
  offer := by
    rw [State.withIssue, recomputeOffer_att_self, att_updAtt_self]
    rfl

/-- Settling and a reply leave a pass as it was written. -/
theorem Issued.answered {s u : State} {p : PortNo} {a : AttrNo} {w n : Nat} {i : SlotNo} {rest : List SlotNo}
    (h : Issued s u p a w n i rest) (q : PortNo) (reply : List Byte) :
    Issued s ((settle u).withReply q reply) p a w n i rest :=
  ⟨h.queue, h.slot, h.slots, h.others, h.record, h.offer⟩

/-- What an ISSUE whose body books a window carries out. -/
theorem Takes.issues {row : Row} {s : State} {p : PortNo} {args data : List Byte} {a : AttrNo} {w n : Nat} {i : SlotNo}
    {rest : List SlotNo} (h : Takes row s p args) (hb : row.body p args s = accept (s.withIssue p a w n i rest) data) :
    Carries (row.command p) s p row.kind data [.passes] nothing fun t => Issued s t p a w n i rest :=
  h.carriesOut hb (keepsBut_records (withIssue_sameDay ..) rfl rfl rfl rfl rfl rfl rfl rfl) (by simp) (fun _ => .rfl)
    (raises_nothing rfl) ((withIssue_issued ..).answered ..)

/-- The mode names the row of an ISSUE. -/
theorem names_issue (mode window party : Byte) :
    Names (if mode = 1 then .issueAt else .issueEarliest) [mode, window, party] := by
  have hn : some mode.toNat = some 1 ↔ mode = 1 := by
    rw [Option.some_inj]
    exact BitVec.toNat_inj (y := 1)
  have hkind : Row.kind (if mode = 1 then .issueAt else .issueEarliest) = 0x30 := by split <;> rfl
  intro request hk ha
  rw [hkind] at hk
  rw [rowOf_issue hk, ha 0]
  exact if_congr hn rfl rfl

/-- A request of the passes that an ISSUE port sends. -/
theorem takes_issue {row : Row} {s : State} {p : PortNo} {args : List Byte} (hs : Sent s p row.kind args)
    (hn : Names row args) (hr : (s.port p).role = .issue) (hp : permits row .issue = true)
    (hknown : row ≠ .unknownRequest) : Takes row s p args := ⟨hs, hn, hknown, hr ▸ hp⟩

/-- The checks of an ISSUE before its window, in their order (R118, R119). -/
theorem issueChecks_eq {p : PortNo} {s : State} {x : Shadow} (hx : (s.port p).shadow = some x) :
    issueChecks p s =
      if x.generation ≠ (s.att x.attraction).generation then .error .stale
      else if s.day ≠ .opened then .error .frameState
      else if (s.att x.attraction).state ≠ .operating then .error .rideState
      else if (s.att x.attraction).desc.share = 0 then .error .noWindow
      else .ok x.attraction := by
  simp only [issueChecks, hx]

theorem issueChecks_none {p : PortNo} {s : State} (hx : (s.port p).shadow = none) :
    issueChecks p s = .error .noSelection := by
  simp only [issueChecks, hx]

/-- An ISSUE that passes its checks finds an OPERATING attraction in an OPEN frame. -/
theorem issueChecks_ok {p : PortNo} {s : State} {a : AttrNo} (h : issueChecks p s = .ok a) :
    s.day = .opened ∧ (s.att a).state = .operating := by
  cases hx : (s.port p).shadow with
  | none => rw [issueChecks_none hx] at h; cases h
  | some x =>
    rw [issueChecks_eq hx] at h
    split_ifs at h with _ hd hs
    cases h
    exact ⟨not_not.mp hd, not_not.mp hs⟩

/-! ### Mode EARLIEST -/

section
variable {p : PortNo} {s : State} {window party : Byte} {a : AttrNo}

theorem issueEarliestBody_error (h1 : 1 ≤ party.toNat) (h8 : party.toNat ≤ 8) {c : ResultCode}
    (hc : issueChecks p s = .error c) : issueEarliestBody p [0, window, party] s = reject c := by
  rw [issueEarliestBody, if_neg (by simp; omega), hc]

theorem issueEarliestBody_none (h1 : 1 ≤ party.toNat) (h8 : party.toNat ≤ 8) (hc : issueChecks p s = .ok a)
    (hw : chooseEarliest s.o s.now (s.att a) party.toNat = none) :
    issueEarliestBody p [0, window, party] s = reject .noWindow := by
  simp only [issueEarliestBody, hc, hw]
  exact if_neg (by simp; omega)

theorem issueEarliestBody_chosen (h1 : 1 ≤ party.toNat) (h8 : party.toNat ≤ 8) (hc : issueChecks p s = .ok a) {w : Nat}
    (hw : chooseEarliest s.o s.now (s.att a) party.toNat = some w) :
    issueEarliestBody p [0, window, party] s = issueInto p a w party.toNat s := by
  simp only [issueEarliestBody, hc, hw]
  exact if_neg (by simp; omega)

/-! ### Mode AT -/

theorem issueAtBody_error (h1 : 1 ≤ party.toNat) (h8 : party.toNat ≤ 8) (hw : window.toNat < indexLimit p s)
    {c : ResultCode} (hc : issueChecks p s = .error c) : issueAtBody p [1, window, party] s = reject c := by
  rw [issueAtBody, if_neg (by omega), hc]

theorem issueAtBody_failed (h1 : 1 ≤ party.toNat) (h8 : party.toNat ≤ 8) (hw : window.toNat < indexLimit p s)
    (hc : issueChecks p s = .ok a) {x : Window} (hx : (s.att a).window window.toNat = some x) {c : ResultCode}
    (ht : atTest s (s.att a) window.toNat party.toNat x = some c) :
    issueAtBody p [1, window, party] s = reject c := by
  simp only [issueAtBody, hc, hx, ht]
  exact if_neg (by omega)

theorem issueAtBody_passed (h1 : 1 ≤ party.toNat) (h8 : party.toNat ≤ 8) (hw : window.toNat < indexLimit p s)
    (hc : issueChecks p s = .ok a) {x : Window} (hx : (s.att a).window window.toNat = some x)
    (ht : atTest s (s.att a) window.toNat party.toNat x = none) :
    issueAtBody p [1, window, party] s = issueInto p a window.toNat party.toNat s := by
  simp only [issueAtBody, hc, hx, ht]
  exact if_neg (by omega)

end

/-- The tests of mode AT on a window, in their order (R106). -/
theorem atTest_cases (s : State) (r : Attraction) (w n : Nat) (x : Window) :
    (x.state ≠ .future ∧ x.state ≠ .opened → atTest s r w n x = some .noWindow) ∧
      (x.state = .future ∨ x.state = .opened →
        (windowStart s.o r.desc w < s.now + r.desc.minLead → atTest s r w n x = some .tooSoon) ∧
        (s.now + r.desc.minLead ≤ windowStart s.o r.desc w →
          (x.quota < x.booked + n → atTest s r w n x = some .windowFull) ∧
          (x.booked + n ≤ x.quota → atTest s r w n x = none))) := by
  unfold atTest
  refine ⟨fun h => if_pos h, fun hs => ?_⟩
  rw [if_neg (by tauto)]
  refine ⟨fun h => if_pos h, fun hle => ?_⟩
  rw [if_neg (Nat.not_lt.mpr hle)]
  exact ⟨fun h => if_pos h, fun hroom => if_neg (Nat.not_lt.mpr hroom)⟩

/-- The checks of an ISSUE, one by one: the refusal of each, and the attraction where none fails (R118, R119). -/
theorem issueChecks_cases {p : PortNo} {s : State} {x : Shadow} (hx : (s.port p).shadow = some x) :
    (x.generation ≠ (s.att x.attraction).generation → issueChecks p s = .error .stale) ∧
      (x.generation = (s.att x.attraction).generation →
        (s.day ≠ .opened → issueChecks p s = .error .frameState) ∧
        (s.day = .opened → (s.att x.attraction).state ≠ .operating → issueChecks p s = .error .rideState) ∧
        (s.day = .opened → (s.att x.attraction).state = .operating →
          ((s.att x.attraction).desc.share = 0 → issueChecks p s = .error .noWindow) ∧
          (0 < (s.att x.attraction).desc.share → issueChecks p s = .ok x.attraction))) := by
  rw [issueChecks_eq hx]
  refine ⟨fun h => if_pos h, fun hg => ?_⟩
  rw [if_neg (not_not.mpr hg)]
  refine ⟨fun h => if_pos h, fun hd ho => ?_, fun hd ho => ?_⟩ <;> rw [if_neg (not_not.mpr hd)]
  · exact if_pos ho
  · rw [if_neg (not_not.mpr ho)]
    exact ⟨fun h => if_pos h, fun hp => if_neg (Nat.pos_iff_ne_zero.mp hp)⟩

end Sys2Proof.Machine

namespace Sys2Proof.Proofs

open Sys2Proof.Machine

/-- Settles O47: the checks in their order, and the pass written into the window chosen. -/
theorem issueEarliest : Obligations.IssueEarliest := by
  intro s p mode window party hs hsent hrole hmode
  have hn := names_issue mode window party
  rw [if_neg hmode] at hn
  have ht : Takes .issueEarliest s p [mode, window, party] := takes_issue hsent hn hrole rfl (by simp)
  refine ⟨fun h => ht.refuses (if_pos h), ?_⟩
  rintro rfl h1 h8
  have refused : ∀ {c}, issueChecks p s = .error c → Refuses (.issueEarliest p) s p 0x30 c := fun hc =>
    ht.refuses (issueEarliestBody_error (window := window) h1 h8 hc)
  refine ⟨fun hx => refused (issueChecks_none hx), fun x hx => ?_⟩
  obtain ⟨stale, fresh⟩ := issueChecks_cases hx
  refine ⟨fun hg => refused (stale hg), fun hg => ?_⟩
  obtain ⟨closed, idle, running⟩ := fresh hg
  refine ⟨fun hd => refused (closed hd), fun hd ho => refused (idle hd ho), fun hd ho => ?_⟩
  obtain ⟨unshared, passed⟩ := running hd ho
  refine ⟨fun hno => ?_, fun w hp hw hfirst => ?_⟩
  · obtain hp | hp := Nat.eq_zero_or_pos (s.att x.attraction).desc.share
    · exact refused (unshared hp)
    · exact ht.refuses (issueEarliestBody_none (window := window) h1 h8 (passed hp)
        (chooseEarliest_eq_none (hno.resolve_left (Nat.pos_iff_ne_zero.mp hp))))
  · have hinto : issueEarliestBody p [0, window, party] s = issueInto p x.attraction w party.toNat s :=
      issueEarliestBody_chosen h1 h8 (passed hp) ((chooseEarliest_eq_some ..).mpr ⟨hw, hfirst⟩)
    exact ⟨fun hq => ht.refuses (hinto.trans (issueInto_full hq ..)), fun i rest hq =>
      ht.issues (hinto.trans (issueInto_free hq ..))⟩

/-- Settles O48: the index, the checks in their order, the tests of the window, and the pass written into it. -/
theorem issueAt : Obligations.IssueAt := by
  intro s p window party hs hsent hrole
  have ht : Takes .issueAt s p [1, window, party] := takes_issue hsent (names_issue 1 window party) hrole rfl (by simp)
  have bad : party.toNat < 1 ∨ 8 < party.toNat ∨ indexLimit p s ≤ window.toNat →
      Refuses (.issueAt p) s p 0x30 .badArgument := fun h => ht.refuses (if_pos h)
  refine ⟨fun h => bad (h.imp_right .inl), fun hx h1 h8 => ?_, fun x hx h1 h8 => ?_⟩
  · have hlimit : indexLimit p s = 64 := by
      simp only [indexLimit, hx]
      rfl
    exact ⟨fun h => bad (.inr (.inr (by omega))), fun h =>
      ht.refuses (issueAtBody_error h1 h8 (by omega) (issueChecks_none hx))⟩
  have hlimit : indexLimit p s = (s.att x.attraction).list.length := by simp only [indexLimit, hx]
  refine ⟨fun h => bad (.inr (.inr (hlimit ▸ List.getElem?_eq_none_iff.mp h))), fun y hy => ?_⟩
  have hw : window.toNat < indexLimit p s := hlimit ▸ (List.getElem?_eq_some_iff.mp hy).1
  have refused : ∀ {c}, issueChecks p s = .error c → Refuses (.issueAt p) s p 0x30 c := fun hc =>
    ht.refuses (issueAtBody_error h1 h8 hw hc)
  obtain ⟨stale, fresh⟩ := issueChecks_cases hx
  refine ⟨fun hg => refused (stale hg), fun hg => ?_⟩
  obtain ⟨closed, idle, running⟩ := fresh hg
  refine ⟨fun hd => refused (closed hd), fun hd ho => refused (idle hd ho), fun hd ho => ?_⟩
  obtain ⟨unshared, passed⟩ := running hd ho
  obtain ⟨notOpen, live⟩ := atTest_cases s (s.att x.attraction) window.toNat party.toNat y
  have failed : ∀ {c}, 0 < (s.att x.attraction).desc.share →
      atTest s (s.att x.attraction) window.toNat party.toNat y = some c → Refuses (.issueAt p) s p 0x30 c := fun hp hc =>
    ht.refuses (issueAtBody_failed h1 h8 hw (passed hp) hy hc)
  refine ⟨fun hno => ?_, fun hp hstate => ?_⟩
  · obtain hp | hp := Nat.eq_zero_or_pos (s.att x.attraction).desc.share
    · exact refused (unshared hp)
    · exact failed hp (notOpen (hno.resolve_left (Nat.pos_iff_ne_zero.mp hp)))
  · obtain ⟨soon, later⟩ := live hstate
    refine ⟨fun hsoon => failed hp (soon hsoon), fun hlead =>
      ⟨fun hfull => failed hp ((later hlead).1 hfull), fun hroom => ?_⟩⟩
    have hinto : issueAtBody p [1, window, party] s = issueInto p x.attraction window.toNat party.toNat s :=
      issueAtBody_passed h1 h8 hw (passed hp) hy ((later hlead).2 hroom)
    refine ⟨fun hq => ht.refuses (hinto.trans (issueInto_full hq ..)), fun i rest hq => ht.issues (hinto.trans ?_)⟩
    simp only [issueInto_free hq, byte_toNat]

end Sys2Proof.Proofs
end

section
/-! PROOFS. CANCEL: the refusals by the pass, and what it frees and writes (R111, R114, R124). -/

namespace Sys2Proof.Machine

/-! ## The pass an id names, and CANCEL -/

/-- An id names no pass where its slot is free or of another generation (R111). -/
theorem issuedPass_unknown {s : State} {id : Nat} {i : SlotNo} (hi : i.val = id % 4096)
    (h : s.slots[i].pass = none ∨ s.slots[i].generation ≠ id / 4096) : issuedPass s id = .error .unknownPass := by
  have hr : s.resolve id = none := by
    rw [resolve_eq s hi]
    split
    · next hg => exact h.resolve_right (not_not.mpr hg)
    · rfl
  simp only [issuedPass, hr]

/-- A pass that an id names is given, or refused by its state (R121, R124). -/
theorem issuedPass_named {s : State} {id : Nat} {i : SlotNo} (hi : i.val = id % 4096) {r : Pass}
    (hr : s.slots[i].pass = some r) (hg : s.slots[i].generation = id / 4096) :
    (r.state = .issued → issuedPass s id = .ok r) ∧ (r.state = .redeemed → issuedPass s id = .error .alreadyUsed) ∧
      (r.state = .expired → issuedPass s id = .error .expired) ∧
      (r.state = .voided → issuedPass s id = .error .voided) := by
  have hres : s.resolve id = some r := by rw [resolve_eq s hi, if_pos hg, hr]
  simp only [issuedPass, hres]
  refine ⟨fun h => ?_, fun h => ?_, fun h => ?_, fun h => ?_⟩ <;> rw [h]

/-- A pass that an id gives stands ISSUED in the slot that the id names. -/
theorem issuedPass_ok {s : State} {id : Nat} {r : Pass} (h : issuedPass s id = .ok r) :
    s.slots[slotOf id].pass = some r ∧ r.state = .issued := by
  unfold issuedPass at h
  split at h
  · cases h
  · next r' hr =>
    rw [resolve_eq s (i := slotOf id) rfl] at hr
    split at hr
    · split at h <;> cases h
      exact ⟨hr, ‹_›⟩
    · cases hr

theorem cancelEffect_sameDay (id : Nat) (r : Pass) (s : State) : SameDay s (cancelEffect id r s) :=
  ⟨rfl, rfl, rfl, rfl, rfl, rfl⟩

theorem cancelEffect_slot (id : Nat) (r : Pass) (s : State) (j : SlotNo) :
    (cancelEffect id r s).slots[j] = if j = slotOf id then ⟨s.slots[slotOf id].generation, none⟩ else s.slots[j] :=
  freeSlot_slot ..

theorem cancelEffect_freeQueue (id : Nat) (r : Pass) (s : State) :
    (cancelEffect id r s).freeQueue = s.freeQueue ++ [slotOf id] := rfl

theorem cancelEffect_att (id : Nat) (r : Pass) (s : State) (b : AttrNo) :
    (cancelEffect id r s).att b =
      if b = r.attraction then { s.att r.attraction with
        windows := (s.att r.attraction).windows.map (·.modify r.window fun y => { y with booked := y.booked - r.party })
        offer := ((cancelEffect id r s).att r.attraction).offer }
      else s.att b := by
  unfold cancelEffect
  split
  · next hb =>
    subst hb
    rw [recomputeOffer_att_self, att_updAtt_self]
    rfl
  · next hb =>
    rw [recomputeOffer_att_ne _ hb, att_updAtt_ne _ _ hb]
    rfl

theorem cancelEffect_offer (id : Nat) (r : Pass) (s : State) :
    ((cancelEffect id r s).att r.attraction).offer =
      offerNow (cancelEffect id r s) ((cancelEffect id r s).att r.attraction) := by
  unfold cancelEffect
  rw [recomputeOffer_att_self]
  rfl

end Sys2Proof.Machine

namespace Sys2Proof.Proofs

open Sys2Proof.Machine

/-- Settles O50: the refusals by the pass, and the slot freed, the party taken off B and the offer recomputed. -/
theorem cancel : Obligations.Cancel := by
  intro s p hi lo i hs hsent hrole hid
  have ht : Takes .cancel s p [hi, lo] := takes_issue hsent (names_alone rfl _) hrole rfl (by simp)
  have refused : ∀ c, issuedPass s (u16 hi lo) = .error c → Refuses (.cancel p) s p 0x32 c := fun c hc =>
    ht.refuses (by simp only [Row.body, cancelBody, hc])
  refine ⟨fun h => refused _ (issuedPass_unknown hid h), fun r hr hg => ?_⟩
  obtain ⟨issued, redeemed, expired, voided⟩ := issuedPass_named (id := u16 hi lo) hid hr hg
  refine ⟨fun h => refused _ (redeemed h), fun h => refused _ (expired h), fun h => refused _ (voided h), fun h => ?_⟩
  obtain rfl : slotOf (u16 hi lo) = i := Fin.ext hid.symm
  have hslot := cancelEffect_slot (u16 hi lo) r s
  have hatt := cancelEffect_att (u16 hi lo) r s
  have hbody : Row.cancel.body p [hi, lo] s =
      accept (cancelEffect (u16 hi lo) r s) [byte r.attraction.val, byte r.window, byte r.party] := by
    simp only [Row.body, cancelBody, issued h]
  have hk : KeepsBut [.attractions, .ports, .passes] s (cancelEffect (u16 hi lo) r s) :=
    keepsBut_records (cancelEffect_sameDay ..) rfl rfl rfl rfl rfl rfl rfl rfl
  have hports : (cancelEffect (u16 hi lo) r s).ports = s.ports := rfl
  have hqueue := cancelEffect_freeQueue (u16 hi lo) r s
  have hoffer := cancelEffect_offer (u16 hi lo) r s
  generalize cancelEffect (u16 hi lo) r s = u at *
  refine ht.carriesOut hbody hk (by simp) (fun q => port_congr hports q ▸ .rfl)
    (raises_nothing hports) ⟨(hslot _).trans (if_pos rfl), fun j hj => (hslot j).trans (if_neg hj), hqueue,
      fun b hb => (hatt b).trans (if_neg hb), (hatt _).trans (if_pos rfl), hoffer⟩

end Sys2Proof.Proofs
end

section
/-! PROOFS. The rows of the passes and the book's laws, and that every step keeps them (R103, R113 to R124). -/

namespace Sys2Proof.Machine

/-! ## One booking -/

/-- The passes that name a window other than that of the one slot that changes are left alone. -/
theorem sameNaming_one {s t : State} {i : SlotNo} {a : AttrNo} {w : Nat}
    (hslots : ∀ j : SlotNo, j ≠ i → t.slots[j] = s.slots[j])
    (hnames : ∀ p, s.slots[i].pass = some p ∨ t.slots[i].pass = some p → p.names a w = false) : SameNaming a w s t :=
  fun j r hr => by
    by_cases hj : j = i
    · subst hj
      refine ⟨fun h => ?_, fun h => ?_⟩
      · rw [hnames r (.inr h)] at hr; cases hr
      · rw [hnames r (.inl h)] at hr; cases hr
    · rw [hslots j hj]

/-- The laws of the book stand where one slot changes, and with it the one window that its passes name. -/
theorem BookSound.books {s t : State} (h : BookSound s) (ht : TableSound t) (hf : Part.frame.same s t) {i : SlotNo}
    {a : AttrNo} {w : Nat} {f : Window → Window} {r : Attraction}
    (hslots : ∀ j : SlotNo, j ≠ i → t.slots[j] = s.slots[j])
    (hnames : ∀ p, s.slots[i].pass = some p ∨ t.slots[i].pass = some p → p.attraction = a ∧ p.window = w)
    (hatt : ∀ b, t.att b = if b = a then r else s.att b)
    (hr : r.windows = (s.att a).windows.map (·.modify w f) ∧ r.inUse = (s.att a).inUse ∧ r.desc = (s.att a).desc)
    (hw : w < (s.att a).list.length)
    (hx : ∀ x, (s.att a).window w = some x → x.Agrees s a w → (f x).Agrees t a w) : BookSound t := by
  have hne : ∀ b v, ¬ (b = a ∧ v = w) → SameNaming b v s t := fun b v hbv =>
    sameNaming_one hslots fun p hp => Bool.eq_false_iff.mpr fun hn => by
      obtain ⟨rfl, rfl⟩ := (names_iff ..).mp hn
      exact hbv (hnames p hp)
  obtain ⟨hwindows, huse, hdesc⟩ := hr
  refine h.one ht hf hatt (fun b hb v => hne b v fun hbv => hb hbv.1) ?_
  refine (h.agrees a).changed (eases_of_same hf) huse (fun _ => by rw [hdesc]) (·.modify w f)
    (fun v x => if w = v then f x else x) hwindows (fun ws v => ?_) (fun v x hv hxa => ?_) fun j p hp ha => ?_
  · rw [List.getElem?_modify]
    rfl
  · split
    · next hwv => subst hwv; exact hx x hv hxa
    · next hwv => exact hxa.same (hne a v fun hbv => hwv hbv.2.symm)
  · by_cases hj : j = i
    · subst hj
      rw [(hnames p (.inr hp)).2]
      exact hw
    · exact (h.agrees a).list.named j p (hslots j hj ▸ hp) ha

/-- A window that a changed slot names agrees where B and A follow the party that the slot counts, and the slot's new pass
fits. -/
theorem Window.Agrees.books {s t : State} {i : SlotNo} {a : AttrNo} {w : Nat} {x y : Window} (h : x.Agrees s a w)
    (hslots : ∀ j : SlotNo, j ≠ i → t.slots[j] = s.slots[j]) (hs : y.state = x.state) (he : y.endedAt = x.endedAt)
    (hfit : ∀ p, t.slots[i].pass = some p → p.names a w = true → p.state.fits x.state = true) (hlive : x.live = true)
    (hb : y.booked + s.slots[i].party a w (fun st => st = .issued || st = .redeemed) =
      x.booked + t.slots[i].party a w fun st => st = .issued || st = .redeemed)
    (ha : y.arrived + s.slots[i].party a w (· = .redeemed) = x.arrived + t.slots[i].party a w (· = .redeemed)) :
    y.Agrees t a w := by
  have hbooked : y.booked = t.parties a w fun st => st = .issued || st = .redeemed := by
    have := parties_one (a := a) (w := w) hslots fun st => st = .issued || st = .redeemed
    have := h.booked hlive
    omega
  have harrived : y.arrived = t.parties a w (· = .redeemed) := by
    have := parties_one (a := a) (w := w) hslots (· = .redeemed)
    have := h.redeemed hlive
    omega
  exact {
    arrived := by
      rw [hbooked, harrived]
      exact parties_le fun st hst => by simp [of_decide_eq_true hst]
    ended := by rw [hs, he]; exact h.ended
    fits := fun j p hp hn => by
      rw [hs]
      by_cases hj : j = i
      · subst hj; exact hfit p hp hn
      · exact h.fits j p (hslots j hj ▸ hp) hn
    booked := fun _ => hbooked
    redeemed := fun _ => harrived }

/-! ## ISSUE, REDEEM, CANCEL -/

/-- A slot taken from the head of the queue leaves the queue the slots not in use (R112, R113). -/
theorem QueueLaw.issued {s t : State} (h : QueueLaw s) {p : PortNo} {a : AttrNo} {w n : Nat} {i : SlotNo}
    {rest : List SlotNo} (hq : s.freeQueue = i :: rest) (ht : Issued s t p a w n i rest) : QueueLaw t := by
  have honce := h.once
  rw [hq, List.nodup_cons] at honce
  refine ⟨ht.queue ▸ honce.2, fun j => ?_⟩
  rw [ht.queue]
  by_cases hj : j = i
  · subst hj
    rw [ht.slot]
    simp [honce.1]
  · rw [ht.slots j hj, ← h.free j, hq, List.mem_cons]
    simp [hj]

/-- A pass written by an ISSUE into a FUTURE or OPEN window keeps the laws of the book (R113, R120). -/
theorem BookSound.issued {s t : State} (h : BookSound s) {p : PortNo} {a : AttrNo} {w n : Nat} {i : SlotNo}
    {rest : List SlotNo} (hq : s.freeQueue = i :: rest) (hd : s.day = .opened) (hn : 1 ≤ n ∧ n ≤ 8) {x : Window}
    (hx : (s.att a).window w = some x) (hs : x.state = .future ∨ x.state = .opened) (ht : Issued s t p a w n i rest)
    (hf : Part.frame.same s t) : BookSound t := by
  have hfree : s.slots[i].pass = none := (h.tableSound.queue.free i).mp (by rw [hq]; simp)
  have hpass : t.slots[i].pass = some ⟨a, w, n, .issued, s.now, p, none⟩ := by rw [ht.slot]
  have htable : TableSound t := h.tableSound.one hd hf.1 ht.slots (fun r hr => by
    cases hpass.symm.trans hr
    exact ⟨hn, by simp⟩) (h.tableSound.queue.issued hq ht)
  refine h.books htable hf (r := t.att a) (f := fun y => { y with booked := y.booked + n }) ht.slots
    (fun r hr => ?_) (fun b => ?_) ?_ (List.getElem?_eq_some_iff.mp hx).1 fun y hy hya => ?_
  · rw [hfree, hpass] at hr
    rcases hr with hr | hr <;> cases hr
    exact ⟨rfl, rfl⟩
  · split
    · next hb => rw [hb]
    · next hb => exact ht.others b hb
  · rw [ht.record]
    exact ⟨rfl, rfl, rfl⟩
  · cases hx.symm.trans hy
    refine hya.books ht.slots rfl rfl (fun r hr _ => ?_) ?_ ?_ ?_
    · cases hpass.symm.trans hr
      rcases hs with hs | hs <;> rw [hs] <;> rfl
    · rcases hs with hs | hs <;> simp [Window.live, hs]
    · rw [party_none hfree, party_some hpass]
      simp [Pass.names]
    · rw [party_none hfree, party_some hpass]
      simp

theorem redeemEffect_slot (id : Nat) (r : Pass) (s : State) (j : SlotNo) :
    (redeemEffect id r s).slots[j] =
      if j = slotOf id then ⟨s.slots[slotOf id].generation, some { r with state := .redeemed, redeemedAt := some s.now }⟩
      else s.slots[j] := setPass_slot ..

theorem redeemEffect_att (id : Nat) (r : Pass) (s : State) (b : AttrNo) :
    (redeemEffect id r s).att b =
      if b = r.attraction then { s.att r.attraction with
        m := satAdd 65535 (s.att r.attraction).m r.party
        windows := (s.att r.attraction).windows.map (·.modify r.window fun y => { y with arrived := y.arrived + r.party }) }
      else s.att b := att_updAtt ..

/-- A window in the list has the state that a REDEEM finds (R122). -/
theorem windowStateOf_eq {s : State} {r : Pass} {x : Window} (h : (s.att r.attraction).window r.window = some x) :
    windowStateOf s r = x.state := by
  simp [windowStateOf, h]

/-- A REDEEM of an ISSUED pass of an opened window keeps the laws of the book (R123). -/
theorem BookSound.redeemed {s : State} (h : BookSound s) {id : Nat} {r : Pass} (hr : s.slots[slotOf id].pass = some r)
    (hi : r.state = .issued) (hopen : windowStateOf s r ≠ .future) : BookSound (redeemEffect id r s) := by
  have hslot := redeemEffect_slot id r s
  have hpass : (redeemEffect id r s).slots[slotOf id].pass =
      some { r with state := .redeemed, redeemedAt := some s.now } := by
    rw [hslot, if_pos rfl]
  have hothers : ∀ j : SlotNo, j ≠ slotOf id → (redeemEffect id r s).slots[j] = s.slots[j] := fun j hj => by
    rw [hslot, if_neg hj]
  have hqueue : QueueLaw (redeemEffect id r s) := by
    refine ⟨h.tableSound.queue.once, fun j => ?_⟩
    refine Iff.trans (h.tableSound.queue.free j) ?_
    by_cases hj : j = slotOf id
    · subst hj
      rw [hr, hpass]
      simp
    · rw [hothers j hj]
  have htable : TableSound (redeemEffect id r s) := h.tableSound.one (h.tableSound.opened hr) rfl hothers (fun p hp => by
    cases hpass.symm.trans hp
    exact ⟨h.tableSound.party _ r hr, by simp⟩) hqueue
  refine h.books htable ⟨rfl, rfl, rfl⟩ hothers (fun p hp => ?_) (redeemEffect_att id r s) ⟨rfl, rfl, rfl⟩
    ((h.agrees r.attraction).list.named _ r hr rfl) fun x hx hxa => ?_
  · rw [hr, hpass] at hp
    rcases hp with hp | hp <;> cases hp <;> exact ⟨rfl, rfl⟩
  · have hfit := hxa.fits _ r hr ((names_iff ..).mpr ⟨rfl, rfl⟩)
    rw [windowStateOf_eq hx] at hopen
    have hs : x.state = .opened ∨ x.state = .slipped := by
      rw [hi] at hfit
      exact ((live_iff x).mp (live_of_fits hfit)).resolve_left hopen
    refine hxa.books hothers rfl rfl (fun p hp _ => ?_) ?_ ?_ ?_
    · cases hpass.symm.trans hp
      rcases hs with hs | hs <;> rw [hs] <;> rfl
    · rcases hs with hs | hs <;> simp [Window.live, hs]
    · rw [party_some hr, party_some hpass]
      simp [Pass.names, hi]
    · rw [party_some hr, party_some hpass]
      simp [Pass.names, hi]

/-- A CANCEL of an ISSUED pass keeps the laws of the book (R114, R124). -/
theorem BookSound.cancelled {s : State} (h : BookSound s) {id : Nat} {r : Pass} (hr : s.slots[slotOf id].pass = some r)
    (hi : r.state = .issued) : BookSound (cancelEffect id r s) := by
  have hslot := cancelEffect_slot id r s
  have hpass : (cancelEffect id r s).slots[slotOf id].pass = none := by
    rw [hslot, if_pos rfl]
  have hothers : ∀ j : SlotNo, j ≠ slotOf id → (cancelEffect id r s).slots[j] = s.slots[j] := fun j hj => by
    rw [hslot, if_neg hj]
  have hqueue : QueueLaw (cancelEffect id r s) := by
    have hused : slotOf id ∉ s.freeQueue := fun hm => by
      rw [(h.tableSound.queue.free _).mp hm] at hr
      cases hr
    rw [← List.disjoint_singleton] at hused
    refine ⟨h.tableSound.queue.once.append (List.nodup_singleton _) hused, fun j => ?_⟩
    rw [cancelEffect_freeQueue, List.mem_append, List.mem_singleton, h.tableSound.queue.free j]
    by_cases hj : j = slotOf id
    · subst hj
      exact iff_of_true (.inr rfl) hpass
    · rw [hothers j hj]
      simp [hj]
  have htable : TableSound (cancelEffect id r s) := h.tableSound.one (h.tableSound.opened hr) rfl hothers
    (fun p hp => nomatch hpass.symm.trans hp) hqueue
  refine h.books htable ⟨rfl, rfl, rfl⟩ hothers (fun p hp => ?_) (cancelEffect_att id r s) ⟨rfl, rfl, rfl⟩
    ((h.agrees r.attraction).list.named _ r hr rfl) fun x hx hxa => ?_
  · rw [hr, hpass] at hp
    rcases hp with hp | hp <;> cases hp
    exact ⟨rfl, rfl⟩
  · have hfit := hxa.fits _ r hr ((names_iff ..).mpr ⟨rfl, rfl⟩)
    have hlive : x.live = true := by
      rw [hi] at hfit
      exact live_of_fits hfit
    have hparty : r.party ≤ x.booked := by
      rw [hxa.booked hlive]
      exact party_le_parties hr (by simp [hi])
    refine hxa.books hothers rfl rfl (fun p hp _ => nomatch hpass.symm.trans hp) hlive ?_ ?_
    · rw [party_some hr, party_none hpass]
      simp [Pass.names, hi, hparty]
    · rw [party_some hr, party_none hpass]
      simp [hi]

theorem issueInto_bookSound {s : State} (h : BookSound s) {p : PortNo} {a : AttrNo} {w n : Nat} (hd : s.day = .opened)
    (hn : 1 ≤ n ∧ n ≤ 8) {x : Window} (hx : (s.att a).window w = some x) (hs : x.state = .future ∨ x.state = .opened) :
    Leaves BookSound (issueInto p a w n s) := by
  cases hq : s.freeQueue with
  | nil => rw [issueInto_full hq]; trivial
  | cons i rest =>
    rw [issueInto_free hq]
    exact h.issued hq hd hn hx hs (withIssue_issued ..) (withIssue_sameDay ..).frame

theorem issueEarliestBody_bookSound {s : State} (h : BookSound s) (p : PortNo) (args : List Byte) :
    Leaves BookSound (issueEarliestBody p args s) := by
  unfold issueEarliestBody
  repeat' split
  all_goals try trivial
  next hargs _ a hc _ w hw =>
    obtain ⟨⟨x, hx, hs, -⟩, -⟩ := (chooseEarliest_eq_some ..).mp hw
    exact issueInto_bookSound h (issueChecks_ok hc).1 (by omega) hx hs

/-- The tests of mode AT pass a FUTURE or OPEN window alone (R106). -/
theorem state_of_atTest {s : State} {r : Attraction} {w n : Nat} {x : Window} (h : atTest s r w n x = none) :
    x.state = .future ∨ x.state = .opened := by
  by_contra hs
  rw [atTest, if_pos (by tauto)] at h
  cases h

theorem issueAtBody_bookSound {s : State} (h : BookSound s) (p : PortNo) (args : List Byte) :
    Leaves BookSound (issueAtBody p args s) := by
  unfold issueAtBody
  repeat' split
  all_goals try trivial
  next hargs _ a hc _ x hx _ ht =>
    exact issueInto_bookSound h (issueChecks_ok hc).1 (by omega) hx (state_of_atTest ht)

theorem redeem_cancel_bookSound {s : State} (h : BookSound s) (p : PortNo) (args : List Byte) :
    Leaves BookSound (redeemBody p args s) ∧ Leaves BookSound (cancelBody p args s) := by
  unfold redeemBody cancelBody
  simp only []
  refine ⟨?_, ?_⟩ <;> repeat' split
  all_goals simp only [leaves_reject, leaves_accept, leaves_error]
  · next hp _ hopen =>
    obtain ⟨hr, hi⟩ := issuedPass_ok hp
    exact h.redeemed hr hi hopen
  · next hp =>
    obtain ⟨hr, hi⟩ := issuedPass_ok hp
    exact h.cancelled hr hi

/-! ## The other rows, and every step -/

theorem count_body_bookSound {s : State} (h : BookSound s) (p : PortNo) (args : List Byte) :
    Leaves BookSound (entryReportBody p args s) ∧ Leaves BookSound (dispatchReportBody p args s) ∧
      Leaves BookSound (queueSetBody p args s) := by
  unfold entryReportBody dispatchReportBody queueSetBody
  simp only []
  refine ⟨?_, ?_, ?_⟩ <;> repeat' split
  all_goals simp only [leaves_reject, leaves_accept]
  · exact h.updAtt _ (applyEntry_sameTerms _ _)
  · exact h.updAtt _ (applyDispatch_sameTerms _ _)
  · exact h.updAtt _ ⟨rfl, rfl, rfl, rfl⟩

/-- The board line's work leaves the pass table alone. -/
theorem startFrame_passes (s : State) : Part.passes.same s (startFrame s) := by
  have send : ∀ e passEnd t, Part.passes.same t (sendEntry e passEnd t) := fun e passEnd t => by
    unfold sendEntry
    split <;> exact ⟨rfl, rfl⟩
  unfold startFrame
  split
  · exact send ..
  · split
    · exact send ..
    · exact ⟨rfl, rfl⟩

theorem markDirty_passes (e : EntryNo) (x : BoardEntry) (s : State) :
    Part.passes.same s (markDirty e (s.setEntry e x)) := by
  unfold markDirty
  split <;> exact ⟨rfl, rfl⟩

theorem bindEntry_passes (e : EntryNo) (b : SignBinding) (s : State) : Part.passes.same s (bindEntry e b s) := by
  have h : Part.passes.same s (markDirty e (s.setEntry e { s.entries[e] with binding := some b })) :=
    markDirty_passes ..
  unfold bindEntry
  simp only []
  split
  · exact Part.same_trans h (startFrame_passes _)
  · exact h
  · exact h

/-- The rows that write no record leave the pass table alone. -/
theorem body_passes {row : Row} (h : row.writesRecords = false) (p : PortNo) (args : List Byte) (s : State) :
    Leaves (Part.passes.same s) (row.body p args s) := by
  cases row <;> try cases h
  all_goals
    simp only [Row.body, statusBody, ackEventsBody, setEventsBody, readClockBody, setClockBody, selectBody,
      readPostingBody, readChangedBody, readWindowsBody, readPassBody, readAttractionBody, bindBody, unbindBody,
      inquireBody, boardSetBody, boardSetClearBody, boardOverrideBody, unknownBody]
    repeat' split
  all_goals
    simp only [leaves_reject, leaves_accept, bindEntry_passes, markDirty_passes]
  all_goals exact ⟨rfl, rfl⟩

/-- SET_CLOCK writes the pending value alone (R4). -/
theorem setClockBody_frame (p : PortNo) (args : List Byte) (s : State) :
    Leaves (Part.frame.same s) (setClockBody p args s) := by
  unfold setClockBody
  simp only []
  repeat' split
  all_goals simp only [leaves_reject, leaves_accept]
  exact ⟨rfl, rfl, rfl⟩

/-- The rows that write no record leave the frame alone. -/
theorem body_frame {row : Row} (h : row.writesRecords = false) (p : PortNo) (args : List Byte) (s : State) :
    Leaves (Part.frame.same s) (row.body p args s) := by
  by_cases hd : row.writesDay = true
  · obtain rfl : row = .setClock := by
      revert h hd
      cases row <;> decide
    exact setClockBody_frame p args s
  · exact (body_sameDay (by simpa using hd) p args s).mono fun _ => SameDay.frame

theorem Leaves.and {P Q : State → Prop} {x : Answer} (hp : Leaves P x) (hq : Leaves Q x) :
    Leaves (fun t => P t ∧ Q t) x := by
  match x, hp, hq with
  | .ok (t, _), hp, hq => exact ⟨hp, hq⟩
  | .error _, _, _ => trivial

theorem body_bookSound {s : State} (h : BookSound s) (row : Row) (p : PortNo) (args : List Byte) :
    Leaves BookSound (row.body p args s) := by
  by_cases hw : row.writesRecords = true
  · obtain ⟨frameOpen, frameClose, clearDay⟩ := frame_body_bookSound h p args
    obtain ⟨release, operating, down, closed⟩ := table_body_bookSound h p args
    obtain ⟨entry, dispatch, queueSet⟩ := count_body_bookSound h p args
    obtain ⟨redeem, cancel⟩ := redeem_cancel_bookSound h p args
    have configure := configureBody_bookSound h p args
    have earliest := issueEarliestBody_bookSound h p args
    have at_ := issueAtBody_bookSound h p args
    cases row <;> try cases hw
    all_goals assumption
  · have hw : row.writesRecords = false := by simpa using hw
    exact (((body_frame hw p args s).and (body_passes hw p args s)).and (body_attractions hw p args s)).mono
      fun _ ⟨⟨hf, hp⟩, ha⟩ => h.sameRecords hf hp ha

/-- The model's own fields are no part of the book. -/
theorem BookSound.withOwn {s : State} (h : BookSound s) (n : Nat) (waiting : List Instr) :
    BookSound { s with choice := n, pending := waiting } := h.sameRecords ⟨rfl, rfl, rfl⟩ ⟨rfl, rfl⟩ rfl

/-- Every part of an event keeps the laws of the book. -/
theorem bookSound_kept : Kept BookSound where
  queue s waiting h := h.withOwn s.choice waiting
  settle _ h := h.settle
  port _ _ _ h := h.sameRecords ⟨rfl, rfl, rfl⟩ ⟨rfl, rfl⟩ rfl
  powerOn straps s _ := (powerOn_bookSound straps).withOwn s.choice s.pending
  lineReset _ _ h := h.sameRecords ⟨rfl, rfl, rfl⟩ ⟨rfl, rfl⟩ rfl
  tick _ h := h.secondTick
  sample levels _ h := h.sampleLines levels
  scan _ h := h.sameRecords ⟨rfl, rfl, rfl⟩ ⟨rfl, rfl⟩ rfl
  start s h := h.sameRecords (startFrame_sameDay s).frame (startFrame_passes s) (startFrame_attractions s)
  body row p args _ h := body_bookSound h row p args

end Sys2Proof.Machine

namespace Sys2Proof.Proofs

open Sys2Proof.Machine

/-- Settles O60: the laws together say one thing of the pass table and one of each record, which every part of an event
keeps. -/
theorem bookSoundKept : Obligations.BookSoundKept := fun _ _ h hx => bookSound_kept.step h hx

end Sys2Proof.Proofs
end

section
/-! PROOFS. The free queue and the slots in use: every step keeps them in agreement, and the table empty outside OPEN (R112 to
R116, R129). -/

namespace Sys2Proof.Machine

/-! ## The law of the queue and the table -/

/-- The free queue holds each slot not in use once, and outside OPEN no slot is in use (R112, R116). -/
structure PassTable (s : State) : Prop where
  queue : QueueLaw s
  table : TableLaw s

/-- The free queue is the same in two states, and so is which slots are in use. -/
structure SameUse (s t : State) : Prop where
  freeQueue : t.freeQueue = s.freeQueue
  slots : ∀ i : SlotNo, t.slots[i].pass = none ↔ s.slots[i].pass = none

theorem SameUse.of_passes {s t : State} (h : Part.passes.same s t) : SameUse s t :=
  ⟨h.2, fun i => by rw [h.1]⟩

/-- A pass taken to another state keeps its slot (R126, R127). -/
theorem retagIf_pass_eq_none (hit : Pass → Bool) (st : PassState) (x : Slot) :
    (x.retagIf hit st).pass = none ↔ x.pass = none := by
  rw [← Option.not_isSome_iff_eq_none, retagIf_pass_isSome, Option.not_isSome_iff_eq_none]

theorem retag_sameUse (s : State) (hit : Pass → Bool) (st : PassState) : SameUse s (s.retag hit st) :=
  ⟨rfl, fun i => by rw [retag_slot, retagIf_pass_eq_none]⟩

theorem QueueLaw.sameUse {s t : State} (h : QueueLaw s) (k : SameUse s t) : QueueLaw t :=
  ⟨k.freeQueue ▸ h.once, fun i => by rw [k.freeQueue, k.slots, h.free]⟩

/-- The law rests on the queue and on which slots are in use, and on the frame through OPEN alone. -/
theorem PassTable.sameUse {s t : State} (h : PassTable s) (k : SameUse s t) (hd : s.day = .opened → t.day = .opened) :
    PassTable t :=
  ⟨h.queue.sameUse k, fun ht i => (k.slots i).mpr (h.table (fun hs => ht (hd hs)) i)⟩

theorem PassTable.same {s t : State} (h : PassTable s) (hp : Part.passes.same s t)
    (hd : s.day = .opened → t.day = .opened) : PassTable t := h.sameUse (.of_passes hp) hd

/-- Slots in use that are freed, each once, join the tail of the queue (R112, R114). -/
theorem QueueLaw.freed {s t : State} (h : QueueLaw s) {js : List SlotNo} (hn : js.Nodup)
    (hused : ∀ i ∈ js, s.slots[i].pass ≠ none) (hq : t.freeQueue = s.freeQueue ++ js)
    (hslots : ∀ i : SlotNo, t.slots[i].pass = none ↔ s.slots[i].pass = none ∨ i ∈ js) : QueueLaw t where
  once := by
    rw [hq]
    exact h.once.append hn fun i hi hj => hused i hj ((h.free i).mp hi)
  free i := by rw [hq, List.mem_append, h.free, hslots]

theorem PassTable.freed {s t : State} (h : PassTable s) {js : List SlotNo} (hn : js.Nodup)
    (hused : ∀ i ∈ js, s.slots[i].pass ≠ none) (hq : t.freeQueue = s.freeQueue ++ js)
    (hslots : ∀ i : SlotNo, t.slots[i].pass = none ↔ s.slots[i].pass = none ∨ i ∈ js)
    (hd : s.day = .opened → t.day = .opened) : PassTable t :=
  ⟨h.queue.freed hn hused hq hslots, fun ht i => (hslots i).mpr (.inl (h.table (fun hs => ht (hd hs)) i))⟩

theorem nodup_slotsWhere (s : State) (hit : Pass → Bool) : (s.slotsWhere hit).Nodup := by
  rw [slotsWhere_eq]
  exact (List.nodup_finRange _).filter _

theorem PassTable.freeWhere {s : State} (h : PassTable s) (hit : Pass → Bool) : PassTable (s.freeWhere hit) := by
  refine h.freed (nodup_slotsWhere s hit) (fun i hi => ?_) rfl (fun i => ?_) id
  · obtain ⟨r, hr, -⟩ := (mem_slotsWhere s hit i).mp hi
    exact fun hn => nomatch hr.symm.trans hn
  · rw [freeWhere_slot, freeIf_pass_eq_none, holds_iff, mem_slotsWhere]

/-! ## The works of a tick -/

theorem PassTable.moveWindows {s : State} (h : PassTable s) (m o z : Nat) (a : AttrNo) (xs : List Window) :
    PassTable (moveWindows m o z a xs s) := by
  have hmoved : PassTable (movedBook m o z a xs s) := by
    refine foldl_keeps (f := fun s w => s.freeWhere (Pass.names a w)) (P := PassTable) (fun _ _ hb => hb.freeWhere _) _ _ ?_
    exact (h.same (t := s.updAtt a _) ⟨rfl, rfl⟩ id).sameUse (retag_sameUse ..) id
  rw [moveWindows_eq]
  split
  · exact hmoved.same ⟨rfl, rfl⟩ id
  · exact hmoved

/-- At the frame's end every slot is freed (R129). -/
theorem PassTable.endFrame {s : State} (h : PassTable s) (m : Nat) : PassTable (endFrame m s) where
  queue := (h.freeWhere fun _ => true).queue.sameUse ⟨rfl, fun _ => Iff.rfl⟩
  table _ i := by rw [endFrame_slot]

theorem PassTable.frameWork {s : State} (h : PassTable s) (m : Nat) : PassTable (frameWork m s) := by
  obtain ⟨hw, -⟩ | ⟨hw, -⟩ | ⟨hw, -⟩ := frameWork_cases m s <;> rw [hw]
  · exact h
  · exact h.same ⟨rfl, rfl⟩ fun _ => rfl
  · exact (h.endFrame m).same ⟨rfl, rfl⟩ id

theorem PassTable.bookWork {s : State} (h : PassTable s) (m : Nat) (a : AttrNo) : PassTable (bookWork m a s) := by
  obtain hw | ⟨o, z, xs, hw⟩ := bookWork_cases m a s <;> rw [hw]
  · exact h
  · exact (h.moveWindows m o z a xs).same ⟨rfl, rfl⟩ id

/-- Where the frame, the slots and the queue are as they were, the law stands. -/
theorem PassTable.stays {s t : State} (h : PassTable s) (k : BookStays s t) : PassTable t :=
  h.same k.passes k.frame.1.trans

theorem PassTable.settle {s : State} (h : PassTable s) : PassTable (settle s) := h.stays (settle_stays s)

theorem PassTable.tickWork {s : State} (h : PassTable s) (m : Nat) (w : TickWork) : PassTable (tickWork m w s) := by
  cases w with
  | frame => exact h.frameWork m
  | estimator a => exact h.stays (estimatorWork_stays m a s)
  | book a => exact h.bookWork m a

theorem PassTable.secondTick {s : State} (h : PassTable s) : PassTable (secondTick s) := by
  have hc : PassTable (clockTick s) := h.stays (clockTick_stays s)
  unfold Machine.secondTick
  refine PassTable.settle ?_
  split
  · exact foldl_keeps (fun _ w hb => (hb.tickWork _ w).settle) _ _ (hc.stays (bookStays_choice ..))
  · exact hc

/-! ## A sample of the lines -/

theorem PassTable.lineWork {s : State} (h : PassTable s) (levels : Levels) (l : LineNo) : PassTable (lineWork levels l s) := by
  obtain ⟨a, f, hw⟩ := lineWork_eq levels l s
  rw [hw]
  exact h.same ⟨rfl, rfl⟩ id

theorem PassTable.sampleLines {s : State} (h : PassTable s) (levels : Levels) : PassTable (sampleLines levels s) :=
  foldl_keeps (fun _ l hb => (hb.lineWork levels l).settle) _ _ (h.stays (bookStays_choice ..))

/-! ## The requests that write no slot -/

/-- The rows that may take a slot, free one or write its pass. -/
def Row.writesSlots : Row → Bool
  | .setStateClosed | .issueEarliest | .issueAt | .redeem | .cancel => true
  | _ => false

theorem confirm_passes (o z : Nat) (s : State) : Part.passes.same s (confirm o z s) := ⟨rfl, rfl⟩

theorem writeOpen_passes (o : Nat) (s : State) : Part.passes.same s (writeOpen o s) := by
  unfold writeOpen
  split <;> exact ⟨rfl, rfl⟩

theorem writeClose_passes (z : Nat) (s : State) : Part.passes.same s (writeClose z s) := by
  unfold writeClose
  split <;> exact ⟨rfl, rfl⟩

theorem moveClose_passes (z : Nat) (s : State) : Part.passes.same s (moveClose z s) := by
  unfold moveClose
  split <;> exact ⟨rfl, rfl⟩

theorem clearDay_passes (s : State) : Part.passes.same s (clearDay s) := by
  simp [Part.same, clearDay]

/-- Every other row leaves the slots and the queue alone. -/
theorem body_keepsSlots {row : Row} (h : row.writesSlots = false) (p : PortNo) (args : List Byte) (s : State) :
    Leaves (Part.passes.same s) (row.body p args s) := by
  by_cases hw : row.writesRecords = true
  · have configured : ∀ a d, Part.passes.same s (configureNew a d s) ∧ Part.passes.same s (configureUsed a d s) := fun a d =>
      ⟨configureNew_keepsBut a d s .passes (by simp), configureUsed_keepsBut a d s .passes (by simp)⟩
    have down : ∀ a, Part.passes.same s (toDown a s) := fun a => toDown_keepsBut a s .passes (by simp)
    cases row <;> (try cases hw) <;> try cases h
    all_goals
      simp only [Row.body, frameOpenBody, frameCloseBody, clearDayBody, configureBody, releaseBody, setStateOperatingBody,
        setStateDownBody, entryReportBody, dispatchReportBody, queueSetBody]
      repeat' split
    all_goals
      simp only [leaves_reject, leaves_accept, confirm_passes, writeOpen_passes, writeClose_passes, moveClose_passes,
        clearDay_passes, configured, down]
    all_goals exact ⟨rfl, rfl⟩
  · exact body_passes (by simpa using hw) p args s

/-! ## The requests and the frame -/

/-- FRAME_OPEN is refused in OPEN (R14). -/
theorem frameOpenBody_keepsOpened {s : State} (h : s.day = .opened) (p : PortNo) (args : List Byte) :
    Leaves (fun t => t.day = .opened) (frameOpenBody p args s) := by
  unfold frameOpenBody
  simp only []
  repeat' split
  all_goals simp only [leaves_reject, leaves_accept]
  · next ho _ _ => exact nomatch (otherMinute_eq_some ho).1.symm.trans h
  · next hs => simp [State.started, h] at hs

/-- In OPEN a FRAME_CLOSE only moves Z (R12). -/
theorem frameCloseBody_keepsOpened {s : State} (h : s.day = .opened) (p : PortNo) (args : List Byte) :
    Leaves (fun t => t.day = .opened) (frameCloseBody p args s) := by
  unfold frameCloseBody
  simp only []
  repeat' split
  all_goals simp only [leaves_reject, leaves_accept]
  · next ho _ _ => exact nomatch (otherMinute_eq_some ho).1.symm.trans h
  · unfold moveClose
    split <;> exact h

/-- CLEAR_DAY is refused in OPEN (R15). -/
theorem clearDayBody_keepsOpened {s : State} (h : s.day = .opened) (p : PortNo) (args : List Byte) :
    Leaves (fun t => t.day = .opened) (clearDayBody p args s) := by
  unfold clearDayBody
  rw [if_pos h]
  split <;> trivial

/-- No request takes the frame out of OPEN. -/
theorem body_keepsOpened {s : State} (h : s.day = .opened) (row : Row) (p : PortNo) (args : List Byte) :
    Leaves (fun t => t.day = .opened) (row.body p args s) := by
  by_cases hw : row.writesDay = true
  · cases row <;> try cases hw
    · exact (setClockBody_frame p args s).mono fun _ ht => ht.1.trans h
    · exact frameOpenBody_keepsOpened h p args
    · exact frameCloseBody_keepsOpened h p args
    · exact clearDayBody_keepsOpened h p args
  · exact (body_sameDay (by simpa using hw) p args s).mono fun _ ht => ht.day.trans h

/-! ## The requests that write slots -/

/-- A close voids passes where they stand (R127). -/
theorem PassTable.toClosed {s : State} (h : PassTable s) (a : AttrNo) : PassTable (toClosed a s) :=
  h.sameUse ⟨by simp [Machine.toClosed], fun i => by rw [toClosed_slot, retagIf_pass_eq_none]⟩
    (toClosed_sameDay a s).day.trans

theorem setStateClosedBody_passTable {s : State} (h : PassTable s) (p : PortNo) (args : List Byte) :
    Leaves PassTable (setStateClosedBody p args s) := by
  unfold setStateClosedBody
  repeat' split
  all_goals simp only [leaves_reject, leaves_accept, h, h.toClosed]

/-- A pass is written in OPEN alone, into the slot at the head of the queue (R113, R116). -/
theorem issueInto_passTable {s : State} (h : PassTable s) {p : PortNo} {a : AttrNo} {w n : Nat} (hd : s.day = .opened) :
    Leaves PassTable (issueInto p a w n s) := by
  cases hq : s.freeQueue with
  | nil =>
    rw [issueInto_full hq]
    trivial
  | cons i rest =>
    rw [issueInto_free hq]
    exact ⟨h.queue.issued hq (withIssue_issued ..), fun ht => absurd hd ht⟩

theorem issueBody_passTable {s : State} (h : PassTable s) (p : PortNo) (args : List Byte) :
    Leaves PassTable (issueEarliestBody p args s) ∧ Leaves PassTable (issueAtBody p args s) := by
  unfold issueEarliestBody issueAtBody
  refine ⟨?_, ?_⟩ <;> repeat' split
  all_goals try trivial
  · next hc _ _ _ => exact issueInto_passTable h (issueChecks_ok hc).1
  · next hc _ _ _ _ _ => exact issueInto_passTable h (issueChecks_ok hc).1

/-- A REDEEM writes a slot that is in use and stays so (R123). -/
theorem PassTable.redeemed {s : State} (h : PassTable s) {id : Nat} {r : Pass} (hr : s.slots[slotOf id].pass = some r) :
    PassTable (redeemEffect id r s) := by
  refine h.sameUse ⟨rfl, fun i => ?_⟩ fun hd => hd
  rw [redeemEffect_slot]
  split
  · next hi =>
    subst hi
    exact iff_of_false (by simp) fun hn => nomatch hr.symm.trans hn
  · exact Iff.rfl

/-- A CANCEL frees a slot in use (R114, R124). -/
theorem PassTable.cancelled {s : State} (h : PassTable s) {id : Nat} {r : Pass} (hr : s.slots[slotOf id].pass = some r) :
    PassTable (cancelEffect id r s) := by
  refine h.freed (List.nodup_singleton _) (fun i hi => ?_) (cancelEffect_freeQueue id r s) (fun i => ?_) fun hd => hd
  · obtain rfl := List.mem_singleton.mp hi
    exact fun hn => nomatch hr.symm.trans hn
  · rw [cancelEffect_slot, List.mem_singleton]
    split <;> simp [*]

theorem redeem_cancel_passTable {s : State} (h : PassTable s) (p : PortNo) (args : List Byte) :
    Leaves PassTable (redeemBody p args s) ∧ Leaves PassTable (cancelBody p args s) := by
  unfold redeemBody cancelBody
  simp only []
  refine ⟨?_, ?_⟩ <;> repeat' split
  all_goals simp only [leaves_reject, leaves_accept, leaves_error]
  · next hp _ _ => exact h.redeemed (issuedPass_ok hp).1
  · next hp => exact h.cancelled (issuedPass_ok hp).1

/-! ## Every step -/

theorem body_passTable {s : State} (h : PassTable s) (row : Row) (p : PortNo) (args : List Byte) :
    Leaves PassTable (row.body p args s) := by
  by_cases hw : row.writesSlots = true
  · obtain ⟨earliest, at_⟩ := issueBody_passTable h p args
    obtain ⟨redeem, cancel⟩ := redeem_cancel_passTable h p args
    have closed := setStateClosedBody_passTable h p args
    cases row <;> try cases hw
    all_goals assumption
  · have hp := body_keepsSlots (by simpa using hw) p args s
    by_cases hd : s.day = .opened
    · exact (hp.and (body_keepsOpened hd row p args)).mono fun _ ht => h.same ht.1 fun _ => ht.2
    · exact hp.mono fun _ ht => h.same ht fun hs => absurd hs hd

/-- The model's own fields are no part of the table. -/
theorem PassTable.withOwn {s : State} (h : PassTable s) (n : Nat) (waiting : List Instr) :
    PassTable { s with choice := n, pending := waiting } := h.same ⟨rfl, rfl⟩ fun hd => hd

theorem powerOn_passTable (straps : Straps) : PassTable (State.powerOn straps) :=
  ⟨(powerOn_bookSound straps).queue, (powerOn_bookSound straps).table⟩

/-- Every part of an event keeps the law of the queue and the table. -/
theorem passTable_kept : Kept PassTable where
  queue s waiting h := h.withOwn s.choice waiting
  settle _ h := h.settle
  port _ _ _ h := h.same ⟨rfl, rfl⟩ id
  powerOn straps _ _ := (powerOn_passTable straps).withOwn ..
  lineReset _ _ h := h.same ⟨rfl, rfl⟩ id
  tick _ h := h.secondTick
  sample levels _ h := h.sampleLines levels
  scan _ h := h.same ⟨rfl, rfl⟩ id
  start s h := h.same (startFrame_passes s) (startFrame_sameDay s).day.trans
  body row p args _ h := body_passTable h row p args

end Sys2Proof.Machine

namespace Sys2Proof.Proofs

open Sys2Proof.Machine

/-- Settles O56: every part of an event leaves the queue the slots not in use, and a slot comes into use in OPEN alone. -/
theorem passTableKept : Obligations.PassTableKept := fun _ _ hq ht hx =>
  have h := passTable_kept.step ⟨hq, ht⟩ hx
  ⟨h.queue, h.table⟩

end Sys2Proof.Proofs
end

section
/-! PROOFS. READ_PASS and REDEEM: the pass an id names, the refusals in their order, and what a REDEEM writes (R111, R121 to
R125). -/

namespace Sys2Proof.Machine

/-! ## READ_PASS -/

/-- An id names no pass where its slot is free or of another generation (R111). -/
theorem resolve_unknown {s : State} {id : Nat} {i : SlotNo} (hi : i.val = id % 4096)
    (h : s.slots[i].pass = none ∨ s.slots[i].generation ≠ id / 4096) : s.resolve id = none := by
  rw [resolve_eq s hi]
  split
  · next hg => exact h.resolve_right (not_not.mpr hg)
  · rfl

/-- An id of the slot's generation names the pass that the slot holds (R111). -/
theorem resolve_named {s : State} {id : Nat} {i : SlotNo} (hi : i.val = id % 4096)
    (hg : s.slots[i].generation = id / 4096) : s.resolve id = s.slots[i].pass := by
  rw [resolve_eq s hi, if_pos hg]

theorem readPassBody_named {s : State} {p : PortNo} {hi lo : Byte} {r : Pass} (h : s.resolve (u16 hi lo) = some r) :
    readPassBody p [hi, lo] s =
      accept s (passBytes (u16 hi lo) r (windowStart s.o (s.att r.attraction).desc r.window)
        (windowEnd s.o (s.att r.attraction).desc r.window) (windowStateOf s r)) := by
  simp only [readPassBody, h]

/-! ## REDEEM -/

/-- A REDEEM of an ISSUED pass, by the attraction's state and the window's (R122, R123). -/
theorem redeemBody_issued {s : State} {p : PortNo} {hi lo : Byte} {r : Pass} (h : issuedPass s (u16 hi lo) = .ok r) :
    redeemBody p [hi, lo] s =
      if (s.att r.attraction).state ≠ .operating then reject .rideState
      else if windowStateOf s r = .future then
        .error ⟨.tooEarly, be16 (openingReply s.o (s.att r.attraction).desc r.window)⟩
      else accept (redeemEffect (u16 hi lo) r s)
        ([hi, lo, byte r.attraction.val, byte r.window, byte r.party] ++ be16 s.now) := by
  simp only [redeemBody, h]

/-- The minute a TOO_EARLY reply carries: the opening time, or some minute of the day where that falls before it (R122;
log 10). -/
theorem openingReply_cases (o : Nat) (d : Descriptor) (w : Nat) :
    (d.earlyGrace ≤ o + w * d.length → openingReply o d w = o + w * d.length - d.earlyGrace) ∧
      (o + w * d.length < d.earlyGrace → openingReply o d w ≤ 1439) := by
  unfold openingReply windowStart
  refine ⟨fun h => if_pos h, fun h => ?_⟩
  rw [if_neg (Nat.not_le.mpr h)]
  exact Nat.le_of_lt_succ (Fin.isLt _)

/-- A REDEEM moves no posting: none shows A, M or a pass (R133). -/
theorem Settled.redeemed {s : State} (h : Settled s) (id : Nat) (r : Pass) : Settled (redeemEffect id r s) := by
  refine h.congr rfl rfl (fun b => ?_) fun b => ?_ <;> rw [redeemEffect_att] <;> split
  · next hb => subst hb; rfl
  · rfl
  · next hb => subst hb; rfl
  · rfl

/-- A request that its row's body refuses with data has them in its reply (R166). -/
theorem Takes.refusesWith {row : Row} {s : State} {p : PortNo} {args : List Byte} (h : Takes row s p args) {c : ResultCode}
    {data : List Byte} (hb : row.body p args s = .error ⟨c, data⟩) :
    Machine.exec (row.command p) s = .next (s.withReply p (replyFrame row.kind c.value data)) := by
  rw [exec_command, carryOut_refused h.sent h.names h.known h.permitted hb]

end Sys2Proof.Machine

namespace Sys2Proof.Proofs

open Sys2Proof.Machine

/-- Settles O25: the id resolves to the pass its slot holds in its generation, whose record the reply carries. -/
theorem readPass : Obligations.ReadPass := by
  intro s p hi lo i hs hsent hid
  have ht : Takes .readPass s p [hi, lo] := takes_any hsent rfl fun _ => rfl
  refine ⟨fun h => ht.refuses ?_, fun r x hr hg hx => ht.grants ?_ hs⟩
  · simp only [Row.body, readPassBody, resolve_unknown (id := u16 hi lo) hid h]
  · have hnamed : s.resolve (u16 hi lo) = some r := (resolve_named hid hg).trans hr
    rw [Row.body, readPassBody_named hnamed, passBytes, windowStateOf_eq hx, be16_u16]
    rfl

/-- Settles O49: the refusals by the pass, the attraction's state and the window's, and the pass, A and M written. -/
theorem redeem : Obligations.Redeem := by
  intro s p hi lo i hs hsent hrole hid
  have ht : Takes .redeem s p [hi, lo] := takes_issue hsent (names_alone rfl _) hrole rfl (by simp)
  have refused : ∀ c, issuedPass s (u16 hi lo) = .error c → Refuses (.redeem p) s p 0x31 c := fun c hc =>
    ht.refuses (by simp only [Row.body, redeemBody, hc])
  refine ⟨fun h => refused _ (issuedPass_unknown hid h), fun r hr hg => ?_⟩
  obtain ⟨issued, redeemed, expired, voided⟩ := issuedPass_named (id := u16 hi lo) hid hr hg
  have body : r.state = .issued → Row.redeem.body p [hi, lo] s = _ := fun h => redeemBody_issued (p := p) (issued h)
  refine ⟨fun h => refused _ (redeemed h), fun h => refused _ (expired h), fun h => refused _ (voided h),
    fun h ho => ht.refuses ((body h).trans (if_pos ho)), fun x h ho hx => ?_⟩
  replace body := body h
  rw [if_neg (not_not.mpr ho), windowStateOf_eq hx] at body
  refine ⟨fun hf => ?_, fun hf => ?_⟩
  · rw [if_pos hf] at body
    obtain ⟨within, before⟩ := openingReply_cases s.o (s.att r.attraction).desc r.window
    exact ⟨_, within, before, ht.refusesWith body⟩
  · rw [if_neg hf] at body
    obtain rfl : slotOf (u16 hi lo) = i := Fin.ext hid.symm
    exact ht.grants body (hs.redeemed _ r)

end Sys2Proof.Proofs
end


section
/-! PROOFS. Every step leaves the postings and the level-type flags as their sources stand (R133, R134, R176, R177). -/

namespace Sys2Proof.Machine

/-! ## Ports whose level-type flags still follow -/

/-- A port keeps what the conditions of its level-type flags are read from, and those flags (R176, R177). -/
structure Port.KeepsLevels (q r : Port) : Prop where
  shadow : r.shadow = q.shadow
  changed : r.changed = q.changed
  levels : ∀ k : EventKind, k.edge = false → r.has k = q.has k

theorem Port.KeepsLevels.rfl {q : Port} : q.KeepsLevels q := ⟨Eq.refl _, Eq.refl _, fun _ _ => Eq.refl _⟩

/-- An edge-type event leaves the level-type flags (R176). -/
theorem Port.keepsLevels_raise (q : Port) {k : EventKind} (hk : k.edge = true) : q.KeepsLevels (q.raise k) where
  shadow := Eq.refl _
  changed := Eq.refl _
  levels j hj := by
    have hne : j ≠ k := fun e => by simp [e, hk] at hj
    simp [hne]

/-- A settled part stays settled while its postings, its attractions and the level-type flags of its ports stay. -/
theorem Settled.keepsLevels {s t : State} (h : Settled s) (hpo : t.postings = s.postings)
    (ha : t.attractions = s.attractions) (hp : ∀ q, (s.port q).KeepsLevels (t.port q)) : Settled t where
  postings a := by rw [hpo, h.postings a, att_congr ha]
  stale q := by
    rw [(hp q).levels _ rfl, h.stale q]
    simp only [staleAt, (hp q).shadow, att_congr ha]
  aged q := by
    rw [(hp q).levels _ rfl, h.aged q]
    simp only [anyAged, ha]
  posting q := by rw [(hp q).levels _ rfl, h.posting q, (hp q).changed]

/-- A port that keeps its shadow, its change set and its flags leaves a settled part settled. -/
theorem Settled.updPort {s : State} (h : Settled s) (p : PortNo) {f : Port → Port}
    (hf : (s.port p).KeepsLevels (f (s.port p))) : Settled (s.updPort p f) :=
  h.keepsLevels rfl rfl fun q => by
    by_cases hq : q = p
    · subst hq
      rwa [port_updPort_self]
    · rw [port_updPort_ne s f hq]
      exact .rfl

/-! ## The parts of an event -/

/-- A frame start writes the dirty set, the refresh pointer and the board line alone (R152 to R154). -/
theorem startFrame_eq (s : State) :
    ∃ dirty refresh board, startFrame s = { s with dirty := dirty, refresh := refresh, board := board } := by
  have send : ∀ e passEnd (u : State), ∃ dirty board, sendEntry e passEnd u = { u with dirty := dirty, board := board } :=
    fun e passEnd u => by
      unfold sendEntry
      split <;> exact ⟨_, _, rfl⟩
  unfold startFrame
  split
  · next e _ =>
    obtain ⟨dirty, board, h⟩ := send e false s
    exact ⟨dirty, s.refresh, board, h⟩
  · split
    · next e _ =>
      obtain ⟨dirty, board, h⟩ := send e (lastValid s e) { s with refresh := afterEntry e }
      exact ⟨dirty, afterEntry e, board, h⟩
    · exact ⟨s.dirty, s.refresh, .idle, rfl⟩

theorem Settled.startFrame {s : State} (h : Settled s) : Settled (startFrame s) := by
  obtain ⟨dirty, refresh, board, e⟩ := startFrame_eq s
  rw [e]
  exact h.same rfl rfl rfl

/-- SCAN is edge-type (R155, R176). -/
theorem Settled.raiseScan {s : State} (h : Settled s) : Settled (raiseScan s) :=
  h.keepsLevels rfl rfl fun q => by
    rw [raiseScan_port]
    split
    · exact (s.port q).keepsLevels_raise rfl
    · exact .rfl

/-- Whatever a row's body answers, a refusal changes a link alone and an accepted request settles what its body hands over
(R164, R167). -/
theorem Settled.carryOut {s : State} (h : Settled s) (row : Row) (body : Body) (p : PortNo) :
    Settled (carryOut row body p s) := by
  have answer : ∀ request x, Settled (answered p request s x) := fun request x =>
    match x with
    | .error _ => h.withReply p _
    | .ok (t, _) => (settled_settle t).withReply p _
  unfold Machine.carryOut
  split
  · split
    · exact answer ..
    · exact h
  · exact h
  · exact h

/-- A fall or a rise of PSEL moves its port's link and period alone (R160, R163). -/
theorem Settled.psel {s t : State} (h : Settled s) {p : PortNo} {bits : List Bool}
    (hx : exec (.pselFall p) s = .next t ∨ exec (.pselRise p bits) s = .next t) : Settled t := by
  rcases hx with hx | hx <;> rw [← Host.Outcome.next.inj hx] <;> split
  · exact h.updPort p ⟨rfl, rfl, fun _ _ => rfl⟩
  · exact h
  · exact h.updPort p ⟨rfl, rfl, fun _ _ => rfl⟩
  · exact h

/-! ## Every command -/

/-- A command leaves a settled part settled: a tick, a sample and a reset settle it themselves, a request is answered, and
nothing else that a command does moves a posting or a level-type flag. -/
theorem Settled.exec {s t : State} (h : Settled s) (i : Instr) (hx : exec i s = .next t) : Settled t := by
  have guarded : ∀ (b : Bool) u, Settled u →
      Host.Outcome.next (if b then u else s) = Host.Outcome.next (φ := Fault) (ρ := Refusal) t → Settled t :=
    fun b u hu hx => by
      cases hx
      split <;> assumption
  have tick : Settled (secondTick s) := settled_secondTick s
  have sample : ∀ levels, Settled (sampleLines levels s) := fun levels => (sampleLines_samples levels h).settled
  cases i with
  | powerOn straps => exact Host.Outcome.next.inj hx ▸ (powerOn_settled straps).same rfl rfl rfl
  | lineReset straps => exact Host.Outcome.next.inj hx ▸ settled_settle _
  | secondTick => exact Host.Outcome.next.inj hx ▸ tick
  | minuteTick | agingTick | retirement => exact guarded _ _ tick hx
  | qualifiedTransition l levels | lineArming l levels => exact guarded _ _ (sample levels) hx
  | millisecondSample levels => exact Host.Outcome.next.inj hx ▸ sample levels
  | frameCompletion =>
    obtain rfl | rfl | rfl := exec_frameCompletion hx
    · exact h
    · exact h.startFrame
    · exact h.raiseScan.startFrame
  | resynchronisingGapEnd =>
    obtain rfl | rfl := exec_resynchronisingGapEnd hx
    · exact h
    · exact h.startFrame
  | pselFall p => exact h.psel (bits := []) (.inl hx)
  | pselRise p bits => exact h.psel (.inr hx)
  | status p | ackEvents p | setEvents p | readClock p | select p | readPosting p | readChanged p | readWindows p
  | readPass p | readAttraction p | setClock p | frameOpen p | frameClose p | clearDay p | configure p | release p
  | setStateOperating p | setStateDown p | setStateClosed p | bind p | unbind p | inquire p | boardSet p
  | boardSetClear p | boardOverride p | entryReport p | dispatchReport p | queueSet p | issueEarliest p | issueAt p
  | redeem p | cancel p | unknownRequest p => exact Host.Outcome.next.inj hx ▸ h.carryOut _ _ p

end Sys2Proof.Machine

namespace Sys2Proof.Proofs

open Sys2Proof.Machine

/-- Settles O54: an empty queue idles, and the command at its front runs in a part as settled as before. -/
theorem settledKept : Obligations.SettledKept := by
  intro s t h hx
  unfold step at hx
  split at hx
  · cases hx
    exact h
  · next i rest _ =>
    have hrest : Settled { s with pending := rest } := h.same rfl rfl rfl
    exact hrest.exec i hx

end Sys2Proof.Proofs
end


section
/-! PROOFS. READ_POSTING, READ_CHANGED and READ_ATTRACTION: the records carried, and what leaves the sending port's change set
(R133, R138, R139, R143, R177, R187). -/

namespace Sys2Proof.Machine

/-! ## A port changed in a settled part -/

/-- In a settled part no posting moves, so none joins a set. -/
theorem Settled.join_moved {s : State} (h : Settled s) (v : Vector Bool Config.attractions) :
    zipV (· || ·) v (movedPostings s) = v := by
  ext1 i hi
  have hm : (movedPostings s)[i] = false := (movedPostings_get s ⟨i, hi⟩).trans (by simp [h.postings])
  simp [hm]

/-- Settling a settled part of which one port was changed brings that port's flags to their conditions and changes nothing
else (R177). -/
theorem Settled.settle_updPort {s : State} (h : Settled s) (p : PortNo) (f : Port → Port) :
    settle (s.updPort p f) = s.updPort p fun q => { f q with flags := followedFlags s (f q) } := by
  apply state_eq_of_ports
  · calc settle (s.updPort p f) = { settle s with ports := (settle (s.updPort p f)).ports } := rfl
      _ = { s with ports := (settle (s.updPort p f)).ports } := by rw [settle_of_settled h]
  · intro q
    have hmoved : movedPostings (s.updPort p f) = movedPostings s := rfl
    rw [settle_port, hmoved, h.join_moved]
    by_cases hq : q = p
    · subst hq
      simp only [port_updPort_self]
      rfl
    · simp only [port_updPort_ne s _ hq]
      exact congrArg (fun flags => { s.port q with flags := flags }) (h.followed q)

/-! ## The change set -/

/-- With another change set, POSTING alone of a port's flags may move (R177). -/
theorem Settled.inMask_followed_changed {s : State} (h : Settled s) (p : PortNo) (changed : Vector Bool Config.attractions)
    (k : EventKind) :
    k.inMask (followedFlags s { s.port p with changed := changed }) =
      if k = .posting then nonEmpty changed else (s.port p).has k := by
  rw [inMask_followedFlags]
  cases k with
  | stale => exact (h.stale p).symm
  | aged => exact (h.aged p).symm
  | posting | frame | attraction | window | scan | clock => rfl

/-- A request whose body takes members out of its port's change set grants the set left, and the flags that follow. -/
theorem Takes.grants_without {row : Row} {s : State} {p : PortNo} {args data : List Byte} {taken : List AttrNo}
    (ht : Takes row s p args) (hs : Settled s)
    (hb : row.body p args s = accept (s.updPort p fun q => { q with changed := withoutMembers taken q.changed }) data) :
    Grants (row.command p) s p row.kind
      (s.updPort p fun q =>
        { q with
          changed := withoutMembers taken (s.port p).changed
          flags := followedFlags s { s.port p with changed := withoutMembers taken (s.port p).changed } })
      data := by
  rw [Grants, ht.exec hb, hs.settle_updPort]
  rfl

@[simp] theorem getElem_withoutMembers (taken : List AttrNo) (v : Vector Bool Config.attractions) (a : AttrNo) :
    (withoutMembers taken v)[a] = (v[a] && !taken.contains a) := by
  simp [withoutMembers]

/-- The members of a set come in rising order. -/
theorem pairwise_members {n : Nat} (v : Vector Bool n) : (members v).Pairwise (· < ·) :=
  (List.sortedLT_finRange n).pairwise.filter _

/-- Where a set's members are split in two, taking the first ones out leaves the others. -/
theorem getElem_withoutMembers_split {taken left : List AttrNo} {v : Vector Bool Config.attractions}
    (h : taken ++ left = members v) (a : AttrNo) : (withoutMembers taken v)[a] = decide (a ∈ left) := by
  have hn : (taken ++ left).Pairwise (· < ·) := h ▸ pairwise_members v
  have apart : a ∈ taken → a ∉ left := fun ht hl => lt_irrefl a ((List.pairwise_append.mp hn).2.2 a ht a hl)
  have hmem : v[a] = true ↔ a ∈ taken ∨ a ∈ left := by rw [← mem_members, ← h, List.mem_append]
  rw [getElem_withoutMembers, Bool.eq_iff_iff]
  simp only [Bool.and_eq_true, Bool.not_eq_true', List.contains_eq_mem, decide_eq_true_eq, decide_eq_false_iff_not, hmem]
  tauto

theorem nonEmpty_withoutMembers_split {taken left : List AttrNo} {v : Vector Bool Config.attractions}
    (h : taken ++ left = members v) : nonEmpty (withoutMembers taken v) = true ↔ left ≠ [] := by
  simp only [nonEmpty_iff, getElem_withoutMembers_split h, decide_eq_true_iff, ne_eq, List.eq_nil_iff_forall_not_mem,
    not_forall, not_not]

/-- Whether a set has a member, as a truth value of its own. -/
theorem nonEmpty_eq_decide {n : Nat} {v : Vector Bool n} {P : Prop} [Decidable P] (h : nonEmpty v = true ↔ P) :
    nonEmpty v = decide P := by
  rw [Bool.eq_iff_iff, h, decide_eq_true_iff]

/-! ## Records -/

/-- The bytes of the posting of an attraction's record (R133, R187). -/
theorem postingBytes_postingOf (a : AttrNo) (r : Attraction) :
    postingBytes a (postingOf r) =
      if r.state = .operating then
        [byte a.val, 2,
          byte ((if r.targetOver then 1 else 0) + (if r.aged then 2 else 0) + (if r.offer = none then 0 else 4)),
          byte r.posted] ++ be16 (r.offer.getD 0)
      else [byte a.val, byte r.state.code, 0, 0, 0, 0] := by
  unfold postingBytes postingOf
  by_cases h : r.state = .operating
  · simp only [h, if_true]
    cases r.offer <;> rfl
  · simp only [h, if_false]

/-- READ_POSTING of an index in range (R138). -/
theorem readPostingBody_index (p : PortNo) (s : State) (a : AttrNo) :
    readPostingBody p [byte a.val] s =
      accept (s.updPort p fun q => { q with changed := withoutMembers [a] q.changed }) (postingBytes a s.postings[a]) := by
  simp [readPostingBody]

/-- READ_CHANGED takes the first six members, and counts those behind them (R139). -/
theorem readChangedBody_eq (p : PortNo) (s : State) :
    readChangedBody p [] s =
      accept
        (s.updPort p fun q => { q with changed := withoutMembers ((members (s.port p).changed).take 6) q.changed })
        (byte ((members (s.port p).changed).drop 6).length ::
          ((members (s.port p).changed).take 6).flatMap fun a => postingBytes a s.postings[a]) := by
  have hcount : ∀ all : List AttrNo, (all.drop 6).length = all.length - (all.take 6).length := fun all => by
    simp only [List.length_take, List.length_drop]
    omega
  simp only [readChangedBody, hcount]

/-- READ_ATTRACTION of an attraction in use (R143). -/
theorem readAttractionBody_inUse {p : PortNo} {s : State} {a : AttrNo} (h : (s.att a).state ≠ .unused) :
    readAttractionBody p [byte a.val] s =
      accept s ([byte (s.att a).state.code] ++ descriptorBytes (s.att a).desc ++ [byte (s.att a).generation] ++
        be16 (s.att a).q ++ be16 (s.att a).m ++ be16 (s.att a).riders ++ be16 (s.att a).throughput ++
        [byte (s.att a).ageCounter]) := by
  simp [readAttractionBody, h]

end Sys2Proof.Machine

namespace Sys2Proof.Proofs

open Sys2Proof.Machine

/-- Settles O22: the posting's bytes are its record's, and the set without the index gives POSTING its condition. -/
theorem readPosting : Obligations.ReadPosting := by
  intro s p index hs hsent
  have ht : Takes .readPosting s p [index] := takes_any hsent rfl fun _ => rfl
  refine ⟨fun h => ht.refuses ?_, fun a hi => ?_⟩
  · simp [Row.body, readPostingBody, attrOf_none h]
  · subst hi
    refine ⟨withoutMembers [a] (s.port p).changed,
      followedFlags s { s.port p with changed := withoutMembers [a] (s.port p).changed }, fun b => ?_, fun k => ?_, ?_⟩
    · rw [getElem_withoutMembers, List.contains_eq_mem]
      simp
    · rw [← nonEmpty_eq_decide (nonEmpty_iff _)]
      exact hs.inMask_followed_changed p _ k
    · rw [← postingBytes_postingOf, ← hs.postings a]
      exact ht.grants_without hs (readPostingBody_index p s a)

/-- Settles O23: the members split at the sixth, the first part taken and the second left. -/
theorem readChanged : Obligations.ReadChanged := by
  intro s p hs hsent
  have ht : Takes .readChanged s p [] := takes_any hsent rfl fun _ => rfl
  have hgrants := ht.grants_without hs (readChangedBody_eq p s)
  generalize hall : members (s.port p).changed = all at hgrants
  have hsplit : all.take 6 ++ all.drop 6 = members (s.port p).changed := by rw [List.take_append_drop, hall]
  have hleft := getElem_withoutMembers_split hsplit
  refine ⟨all.take 6, all.drop 6, _, _, ?_, fun a => ?_, ?_, hleft, fun k => ?_, hgrants⟩
  · rw [hsplit]
    exact pairwise_members _
  · rw [hsplit, mem_members]
  · simp only [List.length_take, List.length_drop]
    omega
  · rw [← nonEmpty_eq_decide (nonEmpty_withoutMembers_split hsplit)]
    exact hs.inMask_followed_changed p _ k

/-- Settles O26: the refusals by the index and by the state, and the bytes of the record. -/
theorem readAttraction : Obligations.ReadAttraction := by
  intro s p index hs hsent
  have ht : Takes .readAttraction s p [index] := takes_any hsent rfl fun _ => rfl
  refine ⟨fun h => ht.refuses ?_, fun a hi => ⟨fun h => ht.refuses ?_, fun h => ht.grants ?_ hs⟩⟩
  · simp [Row.body, readAttractionBody, attrOf_none h]
  · simp [Row.body, readAttractionBody, hi, h]
  · rw [hi, Row.body, readAttractionBody_inUse h]
    rfl

end Sys2Proof.Proofs
end


section
/-! PROOFS. The board list and the scan: what a frame start chooses and sends, and what a change of an entry leaves (R146,
R149, R150, R152 to R154). -/

namespace Sys2Proof.Machine

/-! ## Valid and dirty entries -/

theorem valid_iff_binding {s : State} {e : EntryNo} : s.valid e = true ↔ ∃ b, s.entries[e].binding = some b :=
  Option.isSome_iff_exists

theorem valid_of_binding {s : State} {e : EntryNo} {b : SignBinding} (h : s.entries[e].binding = some b) :
    s.valid e = true := valid_iff_binding.mpr ⟨b, h⟩

theorem valid_congr {s t : State} (h : t.entries = s.entries) (e : EntryNo) : t.valid e = s.valid e := by
  simp [State.valid, h]

theorem anyValid_iff (s : State) : s.anyValid = true ↔ ∃ e, s.valid e = true := by
  simp only [State.anyValid, List.any_eq_true, State.valid]
  constructor
  · rintro ⟨x, hx, hv⟩
    obtain ⟨i, hi, rfl⟩ := List.mem_iff_getElem.mp hx
    exact ⟨⟨i, by simpa using hi⟩, by simpa using hv⟩
  · rintro ⟨e, hv⟩
    exact ⟨s.entries[e], by simp, hv⟩

theorem anyValid_eq_false (s : State) : s.anyValid = false ↔ ∀ e, s.valid e = false := by
  rw [Bool.eq_false_iff, ne_eq, anyValid_iff]
  simp

/-! ## The choice of a frame start -/

/-- The first index of which a test holds. -/
theorem find?_finRange_eq_some {n : Nat} {test : Fin n → Bool} {i : Fin n} :
    (List.finRange n).find? test = some i ↔ test i = true ∧ ∀ j < i, test j = false := by
  simp only [List.find?_eq_some_iff_getElem, List.getElem_finRange, List.length_finRange, Bool.not_eq_true']
  constructor
  · rintro ⟨hi, k, hk, rfl, hbefore⟩
    exact ⟨hi, fun j hj => hbefore j.val hj⟩
  · rintro ⟨hi, hbefore⟩
    exact ⟨hi, i.val, i.isLt, rfl, fun j hj => hbefore ⟨j, _⟩ hj⟩

theorem find?_finRange_eq_none {n : Nat} {test : Fin n → Bool} :
    (List.finRange n).find? test = none ↔ ∀ i, test i = false := by
  simp

/-- The dirty entry that goes first is the lowest-numbered one (R153). -/
theorem lowestDirty_eq_some {s : State} {e : EntryNo} (hd : s.dirty[e] = true) (hv : s.valid e = true)
    (hlow : ∀ x < e, s.dirty[x] = false) : lowestDirty s = some e :=
  find?_finRange_eq_some.mpr ⟨by simp only [hd, hv, Bool.and_self], fun x hx => by simp only [hlow x hx, Bool.false_and]⟩

theorem lowestDirty_eq_none {s : State} (h : ∀ e : EntryNo, s.dirty[e] = true → s.valid e = false) :
    lowestDirty s = none :=
  find?_finRange_eq_none.mpr fun e => by
    cases hd : s.dirty[e] with
    | true => simp only [h e hd, Bool.and_false]
    | false => rfl

theorem valid_of_lowestDirty {s : State} {e : EntryNo} (h : lowestDirty s = some e) : s.valid e = true :=
  (Bool.and_eq_true_iff.mp (find?_finRange_eq_some.mp h).1).2

/-- The refresh order is looked through from the pointer up, and then from 0 up to the pointer (R153). -/
theorem nextRefresh_eq (s : State) :
    nextRefresh s =
      ((List.finRange Config.entries).find? fun x => decide (s.refresh ≤ x) && s.valid x).or
        ((List.finRange Config.entries).find? fun x => decide (x < s.refresh) && s.valid x) := by
  simp only [nextRefresh, refreshOrder, List.find?_append, List.find?_filter, Bool.decide_and, Bool.decide_eq_true]

theorem nextRefresh_eq_some {s : State} {e : EntryNo} (h : NextInOrder s e) : nextRefresh s = some e := by
  rw [nextRefresh_eq, Option.or_eq_some_iff]
  obtain ⟨hv, ⟨hup, hfirst⟩ | ⟨hdown, hnone, hfirst⟩⟩ := h
  · refine .inl (find?_finRange_eq_some.mpr ⟨by simp [hup, hv], fun x hx => ?_⟩)
    simpa using fun hx' => hfirst x hx' hx
  · refine .inr ⟨find?_finRange_eq_none.mpr fun x => by simpa using hnone x,
      find?_finRange_eq_some.mpr ⟨by simp [hdown, hv], fun x hx => by simp [hfirst x hx]⟩⟩

theorem valid_of_nextRefresh {s : State} {e : EntryNo} (h : nextRefresh s = some e) : s.valid e = true :=
  List.find?_some h

theorem nextRefresh_eq_none {s : State} : nextRefresh s = none ↔ ∀ e, s.valid e = false := by
  rw [nextRefresh_eq, Option.or_eq_none_iff, find?_finRange_eq_none, find?_finRange_eq_none]
  constructor
  · rintro ⟨hup, hdown⟩ e
    obtain he | he := le_or_gt s.refresh e
    · simpa [he] using hup e
    · simpa [he] using hdown e
  · exact fun h => ⟨fun e => by simp [h e], fun e => by simp [h e]⟩

/-- A pass ends with the entry above which none is valid (R153). -/
theorem lastValid_eq (s : State) (e : EntryNo) : lastValid s e = decide (∀ x, e < x → s.valid x = false) := by
  rw [Bool.eq_iff_iff, decide_eq_true_iff]
  simp [lastValid, imp_iff_not_or]

/-! ## The frame sent -/

/-- The board line with a frame in flight for an entry of the given binding (R154). -/
def State.sends (s : State) (e : EntryNo) (b : SignBinding) (passEnd : Bool) : Board :=
  .sending (frameOf b s.entries[e].override s.postings[b.attraction]) passEnd

/-- An attraction that is not OPERATING shows its state alone (R149). -/
theorem autoFrame_plain (b : SignBinding) {x : Posting} (h : x.marker ≠ .operating) :
    autoFrame b x =
      ⟨b.address, match x.marker with | .down => .down | .closed => .closed | _ => .blank, 0, 0, false, false, 0⟩ := by
  unfold autoFrame
  cases hm : x.marker with
  | operating => exact absurd hm h
  | down | closed | unused => rfl

theorem autoFrame_wait {b : SignBinding} {x : Posting} {y : Shown} (hm : x.marker = .operating) (hc : b.content = .wait)
    (hs : x.shown = some y) :
    autoFrame b x = ⟨b.address, .wait, y.posted / 256, y.posted % 256, y.overFlag, y.aged, 0⟩ := by
  simp only [autoFrame, hm, hc, hs]

theorem autoFrame_ret {b : SignBinding} {x : Posting} {y : Shown} (hm : x.marker = .operating) (hc : b.content = .ret)
    (hs : x.shown = some y) :
    autoFrame b x =
      match y.nextReturn with
      | some m => ⟨b.address, .ret, m / 60, m % 60, false, false, 0⟩
      | none => ⟨b.address, .none, 0, 0, false, false, 0⟩ := by
  cases hn : y.nextReturn <;> simp only [autoFrame, hm, hc, hs, hn]

/-- Whatever it shows, automatic content goes to the entry's address with override code 0 (R149). -/
theorem autoFrame_address (b : SignBinding) (x : Posting) :
    (autoFrame b x).address = b.address ∧ (autoFrame b x).override = 0 := by
  unfold autoFrame
  simp only []
  repeat' split
  all_goals exact ⟨rfl, rfl⟩

/-- Automatic content has the kind and the fields of R149. -/
theorem autoFrame_sends (b : SignBinding) (x : Posting) : Sends b 0 x (autoFrame b x) where
  address := (autoFrame_address b x).1
  carried := (autoFrame_address b x).2
  under h := absurd rfl h
  plain _ hm := by
    rw [autoFrame_plain b hm]
    exact ⟨rfl, rfl, rfl, rfl, rfl⟩
  wait _ hm hc y hs := by
    rw [autoFrame_wait hm hc hs]
    exact ⟨rfl, Nat.div_add_mod .., Nat.mod_lt _ (by decide), rfl, rfl⟩
  ret _ hm hc y hs := by
    rw [autoFrame_ret hm hc hs]
    cases y.nextReturn with
    | some m => exact ⟨rfl, rfl, rfl, Nat.div_add_mod .., Nat.mod_lt _ (by decide)⟩
    | none => exact ⟨rfl, rfl, rfl, rfl, rfl⟩

/-- The frame of an entry has the kind and the fields of R149. -/
theorem frameOf_sends (b : SignBinding) (code : Nat) (x : Posting) : Sends b code x (frameOf b code x) := by
  by_cases hc : code = 0
  · rw [frameOf, if_pos hc, hc]
    exact autoFrame_sends b x
  · rw [frameOf, if_neg hc]
    exact {
      address := rfl
      carried := rfl
      under := fun _ => ⟨rfl, rfl, rfl, rfl, rfl⟩
      plain := fun h => absurd h hc
      wait := fun h => absurd h hc
      ret := fun h => absurd h hc }

theorem startFrame_of_dirty {s : State} {e : EntryNo} {b : SignBinding} (h : lowestDirty s = some e)
    (hb : s.entries[e].binding = some b) :
    startFrame s = { s with dirty := s.dirty.set e false, board := s.sends e b false } := by
  simp only [startFrame, h, sendEntry, hb]
  rfl

theorem startFrame_of_refresh {s : State} {e : EntryNo} {b : SignBinding} (hd : lowestDirty s = none)
    (h : nextRefresh s = some e) (hb : s.entries[e].binding = some b) :
    startFrame s =
      { s with dirty := s.dirty.set e false, refresh := afterEntry e, board := s.sends e b (lastValid s e) } := by
  simp only [startFrame, hd, h, sendEntry, hb]
  rfl

theorem startFrame_of_none {s : State} (h : ∀ e, s.valid e = false) : startFrame s = { s with board := .idle } := by
  simp only [startFrame, lowestDirty_eq_none fun e _ => h e, nextRefresh_eq_none.mpr h]

/-- What a frame start does: no entry is valid and the line goes IDLE, or a valid entry is sent and leaves the dirty set
(R152, R154). -/
theorem startFrame_cases (s : State) :
    (startFrame s = { s with board := .idle } ∧ ∀ e, s.valid e = false) ∨
      ∃ (e : EntryNo) (refresh : EntryNo) (f : SignFrame) (passEnd : Bool),
        startFrame s = { s with dirty := s.dirty.set e false, refresh := refresh, board := .sending f passEnd } := by
  cases hd : lowestDirty s with
  | some e =>
    obtain ⟨b, hb⟩ := valid_iff_binding.mp (valid_of_lowestDirty hd)
    exact .inr ⟨e, s.refresh, _, false, startFrame_of_dirty hd hb⟩
  | none =>
    cases hr : nextRefresh s with
    | some e =>
      obtain ⟨b, hb⟩ := valid_iff_binding.mp (valid_of_nextRefresh hr)
      exact .inr ⟨e, afterEntry e, _, _, startFrame_of_refresh hd hr hb⟩
    | none => exact .inl ⟨startFrame_of_none (nextRefresh_eq_none.mp hr), nextRefresh_eq_none.mp hr⟩

/-! ## A change of an entry -/

theorem valid_setEntry (s : State) (e y : EntryNo) (x : BoardEntry) :
    (s.setEntry e x).valid y = if y = e then x.binding.isSome else s.valid y := by
  simp only [State.valid, State.setEntry, getElem_set_fin]
  split <;> rfl

theorem markDirty_eq (e : EntryNo) (s : State) :
    markDirty e s = { s with dirty := if s.valid e then s.dirty.set e true else s.dirty } := by
  unfold markDirty
  split <;> rfl

/-- The state after a set, its frame start apart: the entry bound, its override code kept, and marked dirty (R146, R150). -/
def State.bound (s : State) (e : EntryNo) (b : SignBinding) : State :=
  { s with
    entries := s.entries.set e { s.entries[e] with binding := some b }
    dirty := s.dirty.set e true }

theorem bound_entry (s : State) (e y : EntryNo) (b : SignBinding) :
    (s.bound e b).entries[y] = if y = e then ⟨some b, s.entries[e].override⟩ else s.entries[y] := getElem_set_fin ..

theorem bound_dirty (s : State) (e y : EntryNo) (b : SignBinding) :
    (s.bound e b).dirty[y] = if y = e then true else s.dirty[y] := getElem_set_fin ..

theorem bound_valid (s : State) (e y : EntryNo) (b : SignBinding) :
    (s.bound e b).valid y = if y = e then true else s.valid y := by
  rw [State.valid, bound_entry]
  split <;> rfl

/-- A set goes on with a frame start where the line is IDLE (R152). -/
theorem bindEntry_eq (e : EntryNo) (b : SignBinding) (s : State) :
    bindEntry e b s = if s.board = .idle then startFrame (s.bound e b) else s.bound e b := by
  have hmark : markDirty e (s.setEntry e { s.entries[e] with binding := some b }) = s.bound e b := by
    rw [markDirty_eq, valid_setEntry, if_pos rfl]
    rfl
  unfold bindEntry
  rw [hmark]
  have hboard : (s.bound e b).board = s.board := rfl
  cases hb : s.board <;> simp [hboard, hb]

end Sys2Proof.Machine
end


section
/-! PROOFS. Every step keeps the dirty set to valid entries, the line out of IDLE while an entry is valid, and SCAN to the
ports strapped OPS (R150, R152, R155, R176). -/

namespace Sys2Proof.Machine

/-! ## Events that leave the board list alone -/

/-- A port keeps its role, and SCAN is not raised at it. -/
structure Port.Unscanned (q r : Port) : Prop where
  role : r.role = q.role
  scan : r.has .scan = true → q.has .scan = true

theorem Port.Unscanned.rfl {q : Port} : q.Unscanned q := ⟨Eq.refl _, id⟩

theorem Port.Unscanned.trans {q r x : Port} (h : q.Unscanned r) (k : r.Unscanned x) : q.Unscanned x :=
  ⟨k.role.trans h.role, h.scan ∘ k.scan⟩

/-- An event of another kind is no SCAN. -/
theorem Port.Unscanned.raise {q r : Port} (h : q.Unscanned r) {k : EventKind} (hk : k ≠ .scan) : q.Unscanned (r.raise k) :=
  ⟨h.role, by simpa [hk.symm] using h.scan⟩

theorem Port.Unscanned.raiseIf {q r : Port} (h : q.Unscanned r) {k : EventKind} (hk : k ≠ .scan) (b : Bool) :
    q.Unscanned (r.raiseIf k b) := by
  cases b
  · exact h
  · exact h.raise hk

theorem Port.unscanned_of_flags {q r : Port} (hr : r.role = q.role) (hf : r.flags = q.flags) : q.Unscanned r :=
  ⟨hr, by rw [Port.has, hf]; exact id⟩

/-- Clearing flags raises nothing (R178). -/
theorem Port.unscanned_and (q : Port) (mask : Byte) : q.Unscanned { q with flags := q.flags &&& mask } :=
  ⟨Eq.refl _, by simp +contextual [Port.has, inMask_and]⟩

/-- An event writes no entry and leaves the board line as it is; only valid entries join the dirty set, and SCAN is raised at
no port. -/
structure QuietSigns (s t : State) : Prop where
  entries : t.entries = s.entries
  board : t.board = s.board
  dirty : ∀ e : EntryNo, t.dirty[e] = true → s.dirty[e] = true ∨ s.valid e = true
  ports : ∀ q, (s.port q).Unscanned (t.port q)

theorem QuietSigns.trans {s t u : State} (h : QuietSigns s t) (k : QuietSigns t u) : QuietSigns s u where
  entries := k.entries.trans h.entries
  board := k.board.trans h.board
  dirty e he := (k.dirty e he).elim (h.dirty e) fun hv => .inr (valid_congr h.entries e ▸ hv)
  ports q := (h.ports q).trans (k.ports q)

/-- An event that leaves the board list and the line, and changes ports without a SCAN. -/
theorem quietSigns_of_ports {s t : State} (he : t.entries = s.entries) (hb : t.board = s.board) (hd : t.dirty = s.dirty)
    (hp : ∀ q, (s.port q).Unscanned (t.port q)) : QuietSigns s t where
  entries := he
  board := hb
  dirty _ := by rw [hd]; exact .inl
  ports := hp

theorem KeepsBut.quietSigns {touched : List Part} {s t : State} (h : KeepsBut touched s t)
    (hp : ∀ q, (s.port q).Unscanned (t.port q)) (ht : ∀ x ∈ [Part.entries, .board, .dirty], x ∉ touched) :
    QuietSigns s t :=
  quietSigns_of_ports (h .entries (ht _ (by simp))) (h .board (ht _ (by simp))) (h .dirty (ht _ (by simp))) hp

/-- An event that leaves the ports too. -/
theorem QuietSigns.same {s t : State} (he : t.entries = s.entries) (hb : t.board = s.board) (hd : t.dirty = s.dirty)
    (hp : t.ports = s.ports) : QuietSigns s t :=
  quietSigns_of_ports he hb hd fun q => by rw [port_congr hp]; exact .rfl

theorem QuietSigns.rfl {s : State} : QuietSigns s s := .same (Eq.refl _) (Eq.refl _) (Eq.refl _) (Eq.refl _)

theorem updPort_quietSigns {s : State} {p : PortNo} {f : Port → Port} (hf : (s.port p).Unscanned (f (s.port p))) :
    QuietSigns s (s.updPort p f) :=
  quietSigns_of_ports rfl rfl rfl fun q => by
    by_cases hq : q = p
    · subst hq
      rwa [port_updPort_self]
    · rw [port_updPort_ne s f hq]
      exact .rfl

theorem withReply_quietSigns (s : State) (p : PortNo) (r : List Byte) : QuietSigns s (s.withReply p r) :=
  updPort_quietSigns (Port.unscanned_of_flags rfl rfl)

/-- Settling marks valid entries alone, and moves level-type flags alone (R150, R177). -/
theorem settle_quietSigns (s : State) : QuietSigns s (settle s) where
  entries := rfl
  board := rfl
  dirty e he := by
    rw [settle_dirty, Bool.or_eq_true] at he
    refine he.imp_right fun hm => valid_iff_binding.mpr ?_
    cases hb : s.entries[e].binding with
    | some b => exact ⟨b, rfl⟩
    | none =>
      rw [hb] at hm
      cases hm
  ports q := ⟨settle_port_role s q, by rw [settle_has_edge s q .scan rfl]; exact id⟩

theorem QuietSigns.settle {s t : State} (h : QuietSigns s t) : QuietSigns s (settle t) := h.trans (settle_quietSigns t)

/-! ## Ticks and samples -/

theorem tickWork_quietSigns (m : Nat) (w : TickWork) (s : State) : QuietSigns s (tickWork m w s) := by
  have htouches : tickWork m w s = _ := tickWork_touchesBook m w s
  refine quietSigns_of_ports (by rw [htouches]) (by rw [htouches]) (by rw [htouches]) fun q => ?_
  obtain ⟨b, c, hq⟩ := tickWork_port m w s q
  rw [hq]
  exact (Port.Unscanned.rfl.raiseIf (by decide) b).raiseIf (by decide) c

theorem clockTick_quietSigns (s : State) : QuietSigns s (clockTick s) :=
  (clockTick_quiet s).1.quietSigns (fun q => by
    obtain ⟨b, hq⟩ := clockTick_port s q
    rw [hq]
    exact Port.Unscanned.rfl.raiseIf (by decide) b) (by simp)

theorem secondTick_quietSigns (s : State) : QuietSigns s (secondTick s) := by
  have clock := clockTick_quietSigns s
  unfold secondTick
  refine QuietSigns.settle ?_
  split
  · exact foldl_keeps (P := QuietSigns s) (fun t w h => (h.trans (tickWork_quietSigns _ w t)).settle) _ _
      (clock.trans (.same rfl rfl rfl rfl))
  · exact clock

theorem sampleLines_quietSigns (levels : Levels) (s : State) : QuietSigns s (sampleLines levels s) := by
  have line : ∀ l t, QuietSigns t (lineWork levels l t) := fun l t => by
    obtain ⟨a, f, h⟩ := lineWork_eq levels l t
    rw [h]
    exact .same rfl rfl rfl rfl
  exact foldl_keeps (P := QuietSigns s) (fun t l h => (h.trans (line l t)).settle) _ _ (.same rfl rfl rfl rfl)

/-! ## The effects of requests outside the board list -/

theorem confirm_quietSigns (o z : Nat) (s : State) : QuietSigns s (confirm o z s) :=
  quietSigns_of_ports rfl rfl rfl fun q => by
    have hq : (confirm o z s).port q =
        ((s.port q).raiseIf .window ((s.port q).namesSome fun a => (s.att a).inUse)).raise .frame := by
      rw [confirm, raiseAll_port, raiseWindow_port]
      rfl
    rw [hq]
    exact (Port.Unscanned.rfl.raiseIf (by decide) _).raise (by decide)

/-- An event of another kind at every port is no SCAN. -/
theorem QuietSigns.raiseAll {s t : State} (h : QuietSigns s t) {k : EventKind} (hk : k ≠ .scan) :
    QuietSigns s (raiseAll k t) :=
  h.trans (quietSigns_of_ports (Eq.refl _) (Eq.refl _) (Eq.refl _) fun q => by
    rw [raiseAll_port]
    exact Port.Unscanned.rfl.raise hk)

theorem QuietSigns.emptyBook {s t : State} (h : QuietSigns s t) : QuietSigns s (emptyBook t) :=
  h.trans (quietSigns_of_ports (Eq.refl _) (Eq.refl _) (Eq.refl _) fun q => by
    rw [Machine.emptyBook, raiseWindow_port]
    exact Port.Unscanned.rfl.raiseIf (by decide) (Port.namesSome _ _))

theorem writeOpen_quietSigns (o : Nat) (s : State) : QuietSigns s (writeOpen o s) := by
  cases hd : s.day with
  | armed =>
    rw [writeOpen_armed o hd]
    refine QuietSigns.raiseAll (QuietSigns.emptyBook ?_) (by decide)
    exact .same rfl rfl rfl rfl
  | unset =>
    rw [writeOpen_unset o hd]
    refine QuietSigns.raiseAll ?_ (by decide)
    exact .same rfl rfl rfl rfl
  | half =>
    rw [writeOpen_half o hd]
    exact .same rfl rfl rfl rfl
  | opened | ended => simp only [writeOpen, hd, QuietSigns.rfl]

theorem writeClose_quietSigns (z : Nat) (s : State) : QuietSigns s (writeClose z s) := by
  cases hd : s.day with
  | armed =>
    rw [writeClose_armed z hd]
    refine QuietSigns.raiseAll (QuietSigns.emptyBook ?_) (by decide)
    exact .same rfl rfl rfl rfl
  | unset =>
    rw [writeClose_unset z hd]
    refine QuietSigns.raiseAll ?_ (by decide)
    exact .same rfl rfl rfl rfl
  | half =>
    rw [writeClose_half z hd]
    exact .same rfl rfl rfl rfl
  | opened | ended => simp only [writeClose, hd, QuietSigns.rfl]

theorem moveClose_quietSigns (z : Nat) (s : State) : QuietSigns s (moveClose z s) := by
  by_cases h : z = s.z
  · rw [moveClose_same h]
    exact .rfl
  · rw [moveClose_move h]
    exact quietSigns_of_ports rfl rfl rfl fun q => by
      rw [raiseWindow_port]
      exact Port.Unscanned.rfl.raiseIf (by decide) (Port.namesSome _ _)

theorem clearDay_quietSigns (s : State) : QuietSigns s (clearDay s) :=
  (clearDay_keepsBut s).quietSigns (fun q => by
    rw [clearDay_port]
    exact ((Port.Unscanned.rfl.raiseIf (by decide) _).raiseIf (by decide) _).raiseIf (by decide) _) (by simp)

theorem configureNew_quietSigns (a : AttrNo) (d : Descriptor) (s : State) : QuietSigns s (configureNew a d s) :=
  (configureNew_keepsBut a d s).quietSigns (fun q => by
    rw [configureNew_port]
    exact (Port.Unscanned.rfl.raiseIf (by decide) _).raise (by decide)) (by simp)

theorem configureUsed_quietSigns (a : AttrNo) (d : Descriptor) (s : State) : QuietSigns s (configureUsed a d s) :=
  (configureUsed_keepsBut a d s).quietSigns (fun q => by
    rw [configureUsed_port]
    exact Port.Unscanned.rfl.raiseIf (by decide) _) (by simp)

theorem releaseEffect_quietSigns (a : AttrNo) (s : State) : QuietSigns s (releaseEffect a s) :=
  quietSigns_of_ports rfl rfl rfl fun q => by
    rw [releaseEffect_port, dropShadow]
    refine Port.Unscanned.raise ?_ (by decide)
    split
    · exact Port.unscanned_of_flags rfl rfl
    · exact .rfl

theorem toOperating_quietSigns (setUp : Attraction → Attraction) (a : AttrNo) (s : State) :
    QuietSigns s (toOperating setUp a s) :=
  (toOperating_keepsBut setUp a s).quietSigns (fun q => by
    rw [toOperating_port]
    exact Port.Unscanned.rfl.raise (by decide)) (by simp)

theorem toDown_quietSigns (a : AttrNo) (s : State) : QuietSigns s (toDown a s) :=
  (toDown_keepsBut a s).quietSigns (fun q => by
    rw [toDown_port]
    exact (Port.Unscanned.rfl.raiseIf (by decide) _).raise (by decide)) (by simp)

theorem toClosed_quietSigns (a : AttrNo) (s : State) : QuietSigns s (toClosed a s) :=
  (toClosed_keepsBut a s).quietSigns (fun q => by
    rw [toClosed_port]
    exact (Port.Unscanned.rfl.raiseIf (by decide) _).raise (by decide)) (by simp)

theorem issueInto_quietSigns (p : PortNo) (a : AttrNo) (w n : Nat) (s : State) :
    Leaves (QuietSigns s) (issueInto p a w n s) := by
  unfold issueInto
  split
  · trivial
  · next t id h =>
    obtain ⟨i, rest, -, -, rfl⟩ := allocate_eq_some h
    exact .same rfl rfl rfl rfl

/-! ## The rows outside the board list -/

/-- The rows that write an entry of the board list. -/
def Row.writesBoard : Row → Bool
  | .boardSet | .boardSetClear | .boardOverride => true
  | _ => false

/-- The rows that write their own port raise nothing there (R138, R139, R170, R178, R179). -/
theorem port_body_quietSigns (p : PortNo) (args : List Byte) (s : State) :
    Leaves (QuietSigns s) (ackEventsBody p args s) ∧ Leaves (QuietSigns s) (setEventsBody p args s) ∧
      Leaves (QuietSigns s) (selectBody p args s) ∧ Leaves (QuietSigns s) (readPostingBody p args s) ∧
      Leaves (QuietSigns s) (readChangedBody p args s) := by
  unfold ackEventsBody setEventsBody selectBody readPostingBody readChangedBody
  simp only []
  refine ⟨?_, ?_, ?_, ?_, ?_⟩ <;> repeat' split
  all_goals simp only [leaves_reject, leaves_accept]
  · refine QuietSigns.settle (updPort_quietSigns ?_)
    exact (s.port p).unscanned_and _
  all_goals
    refine updPort_quietSigns ?_
    exact Port.unscanned_of_flags rfl rfl

/-- Every other row outside the board list carries out one of the effects above, or leaves the ports alone. -/
theorem body_quietSigns {row : Row} (h : row.writesBoard = false) (p : PortNo) (args : List Byte) (s : State) :
    Leaves (QuietSigns s) (row.body p args s) := by
  obtain ⟨ack, setEvents, select, readPosting, readChanged⟩ := port_body_quietSigns p args s
  cases row <;> try cases h
  case ackEvents => exact ack
  case setEvents => exact setEvents
  case select => exact select
  case readPosting => exact readPosting
  case readChanged => exact readChanged
  all_goals
    simp only [Row.body, statusBody, readClockBody, readWindowsBody, readPassBody, readAttractionBody, setClockBody,
      frameOpenBody, frameCloseBody, clearDayBody, configureBody, releaseBody, setStateOperatingBody, setStateDownBody,
      setStateClosedBody, bindBody, unbindBody, inquireBody, entryReportBody, dispatchReportBody, queueSetBody,
      issueEarliestBody, issueAtBody, redeemBody, cancelBody, unknownBody]
    repeat' split
  all_goals
    simp only [leaves_reject, leaves_error, leaves_accept, confirm_quietSigns, writeOpen_quietSigns, writeClose_quietSigns,
      moveClose_quietSigns, clearDay_quietSigns, configureNew_quietSigns, configureUsed_quietSigns,
      releaseEffect_quietSigns, toOperating_quietSigns, toDown_quietSigns, toClosed_quietSigns, issueInto_quietSigns]
  all_goals exact .same rfl rfl rfl rfl

/-! ## The law of the board list and of SCAN -/

/-- The two laws that every step keeps together. -/
structure SignLaw (s : State) : Prop where
  board : BoardLaw s
  scan : ScanLaw s

theorem SignLaw.quiet {s t : State} (h : SignLaw s) (k : QuietSigns s t) : SignLaw t where
  board := {
    dirty := fun e he => by
      rw [valid_congr k.entries]
      exact (k.dirty e he).elim (h.board.dirty e) id
    idle := fun hi => by
      rw [State.anyValid, k.entries]
      exact h.board.idle (k.board ▸ hi) }
  scan q hq := by
    obtain ⟨hrole, hscan⟩ := k.ports q
    exact Bool.eq_false_iff.mpr fun ht => by
      have hs := h.scan q (hrole ▸ hq)
      rw [hscan ht] at hs
      cases hs

/-- Only valid entries are members of the dirty set (R150). -/
def State.MarksValid (s : State) : Prop := ∀ e : EntryNo, s.dirty[e] = true → s.valid e = true

theorem ScanLaw.congr {s t : State} (h : ScanLaw s) (hp : t.ports = s.ports) : ScanLaw t := fun q => by
  rw [port_congr hp]
  exact h q

/-- A frame start sends a valid entry, and idles the line only where none is valid (R152). -/
theorem startFrame_signLaw {s : State} (hd : s.MarksValid) (hs : ScanLaw s) : SignLaw (startFrame s) := by
  obtain ⟨h, hnone⟩ | ⟨e, refresh, f, passEnd, h⟩ := startFrame_cases s <;> rw [h]
  · exact ⟨⟨hd, fun _ => (anyValid_eq_false s).mpr hnone⟩, hs.congr rfl⟩
  · refine ⟨⟨fun x hx => hd x ?_, fun hi => nomatch hi⟩, hs.congr rfl⟩
    simp only [getElem_set_fin] at hx
    split at hx
    · cases hx
    · exact hx

/-- SCAN goes to the ports strapped OPS (R155). -/
theorem SignLaw.raiseScan {s : State} (h : SignLaw s) : SignLaw (raiseScan s) where
  board := ⟨h.board.dirty, h.board.idle⟩
  scan q hq := by
    rw [raiseScan_port] at hq ⊢
    split at hq
    · next ho => exact absurd ho hq
    · next ho =>
      rw [if_neg ho]
      exact h.scan q ho

theorem powerOn_signLaw (straps : Straps) : SignLaw (State.powerOn straps) :=
  ⟨powerOn_boardLaw straps, fun q _ => powerOn_has straps q .scan⟩

/-- A line reset marks the valid entries, starts the gap and clears every flag (R156, R175). -/
theorem lineReset_signLaw (straps : Straps) (s : State) : SignLaw (lineReset straps s) where
  board := {
    dirty := fun e he => by simpa [lineReset, State.valid] using he
    idle := fun hi => nomatch hi }
  scan q _ := by
    rw [lineReset_port]
    exact inMask_zero .scan

/-! ## The requests of the board list -/

theorem State.MarksValid.markDirty {s : State} (h : s.MarksValid) (e : EntryNo) : (markDirty e s).MarksValid := by
  rw [markDirty_eq]
  intro y hy
  simp only at hy
  split at hy
  · next hv =>
    rw [getElem_set_fin] at hy
    split at hy
    · next hye => exact hye ▸ hv
    · exact h y hy
  · exact h y hy

theorem State.MarksValid.setEntry {s : State} (h : s.MarksValid) {e : EntryNo} {x : BoardEntry}
    (hx : s.valid e = true → x.binding.isSome = true) : (s.setEntry e x).MarksValid := fun y hy => by
  rw [valid_setEntry]
  split
  · next hye => exact hx (hye ▸ h y hy)
  · exact h y hy

/-- An event after which no entry is valid that was not before leaves the line's part of the law. -/
theorem BoardLaw.fewerValid {s t : State} (h : BoardLaw s) (hb : t.board = s.board)
    (hv : ∀ e, t.valid e = true → s.valid e = true) (hd : t.MarksValid) : BoardLaw t where
  dirty := hd
  idle hi := by
    have hnone := (anyValid_eq_false s).mp (h.idle (hb ▸ hi))
    refine (anyValid_eq_false t).mpr fun e => Bool.eq_false_iff.mpr fun he => ?_
    have hs := hnone e
    rw [hv e he] at hs
    cases hs

/-- A set binds its entry, and an IDLE line starts a frame at once (R146, R152). -/
theorem SignLaw.bindEntry {s : State} (h : SignLaw s) (e : EntryNo) (b : SignBinding) : SignLaw (bindEntry e b s) := by
  have hmarks : (s.bound e b).MarksValid := fun y hy => by
    rw [bound_dirty] at hy
    rw [bound_valid]
    split
    · rfl
    · next hye => exact h.board.dirty y (by rwa [if_neg hye] at hy)
  have hscan : ScanLaw (s.bound e b) := h.scan.congr rfl
  rw [bindEntry_eq]
  split
  · exact startFrame_signLaw hmarks hscan
  · next hi => exact ⟨⟨hmarks, fun hidle => absurd hidle hi⟩, hscan⟩

/-- A clear takes the place in the dirty set away with the binding (R147). -/
theorem SignLaw.clearEntry {s : State} (h : SignLaw s) (e : EntryNo) :
    SignLaw ((s.setEntry e ⟨none, 0⟩).setDirty e false) := by
  have hvalid : ∀ y, ((s.setEntry e ⟨none, 0⟩).setDirty e false).valid y = if y = e then false else s.valid y :=
    fun y => valid_setEntry s e y _
  refine ⟨h.board.fewerValid rfl (fun y hy => ?_) fun y hy => ?_, h.scan.congr rfl⟩
  · rw [hvalid] at hy
    split at hy
    · cases hy
    · exact hy
  · rw [State.setDirty, getElem_set_fin] at hy
    rw [hvalid]
    split at hy
    · cases hy
    · next hye =>
      rw [if_neg hye]
      exact h.board.dirty y hy

/-- A change of an entry's override code leaves its binding (R148). -/
theorem SignLaw.overrideEntry {s : State} (h : SignLaw s) (e : EntryNo) (code : Nat) :
    SignLaw (markDirty e (s.setEntry e { s.entries[e] with override := code })) := by
  have hvalid : ∀ y, (s.setEntry e { s.entries[e] with override := code }).valid y = s.valid y := fun y => by
    rw [valid_setEntry]
    split
    · next hye => rw [hye]; rfl
    · rfl
  have hmarks : State.MarksValid (s.setEntry e { s.entries[e] with override := code }) :=
    State.MarksValid.setEntry h.board.dirty id
  refine ⟨h.board.fewerValid (by rw [markDirty_eq]; rfl) (fun y hy => ?_) (hmarks.markDirty e),
    h.scan.congr (by rw [markDirty_eq]; rfl)⟩
  rw [markDirty_eq] at hy
  exact hvalid y ▸ hy

theorem board_body_signLaw {s : State} (h : SignLaw s) (p : PortNo) (args : List Byte) :
    Leaves SignLaw (boardSetBody p args s) ∧ Leaves SignLaw (boardSetClearBody p args s) ∧
      Leaves SignLaw (boardOverrideBody p args s) := by
  unfold boardSetBody boardSetClearBody boardOverrideBody
  refine ⟨?_, ?_, ?_⟩ <;> repeat' split
  all_goals simp only [leaves_reject, leaves_accept, h.bindEntry, h.clearEntry, h.overrideEntry]

theorem body_signLaw {s : State} (h : SignLaw s) (row : Row) (p : PortNo) (args : List Byte) :
    Leaves SignLaw (row.body p args s) := by
  by_cases hw : row.writesBoard = true
  · obtain ⟨hset, hclear, hoverride⟩ := board_body_signLaw h p args
    cases row <;> try cases hw
    all_goals assumption
  · exact (body_quietSigns (by simpa using hw) p args s).mono fun _ => h.quiet

/-! ## Every command -/

/-- A refused request moves a link, and an accepted one settles what its body hands over (R164, R167). -/
theorem SignLaw.carryOut {s : State} (h : SignLaw s) (row : Row) (p : PortNo) : SignLaw (carryOut row row.body p s) := by
  have refused : ∀ reply, SignLaw (s.withReply p reply) := fun reply => h.quiet (withReply_quietSigns s p reply)
  unfold Machine.carryOut
  split
  · next request _ =>
    split
    · unfold judge
      split
      · exact refused _
      · next args _ =>
        split
        · exact refused _
        · split
          · have hbody := body_signLaw h row p args
            match row.body p args s, hbody with
            | .ok (t, _), hbody => exact (hbody.quiet (settle_quietSigns t)).quiet (withReply_quietSigns _ p _)
            | .error _, _ => exact refused _
          · exact refused _
    · exact h
  · exact h
  · exact h

/-- A fall or a rise of PSEL moves its port's link and period alone (R160, R163). -/
theorem SignLaw.psel {s t : State} (h : SignLaw s) {p : PortNo} {bits : List Bool}
    (hx : exec (.pselFall p) s = .next t ∨ exec (.pselRise p bits) s = .next t) : SignLaw t := by
  have moved : ∀ f : Port → Port, (f (s.port p)).role = (s.port p).role → (f (s.port p)).flags = (s.port p).flags →
      SignLaw (s.updPort p f) := fun f hr hf => h.quiet (updPort_quietSigns (Port.unscanned_of_flags hr hf))
  rcases hx with hx | hx <;> rw [← Host.Outcome.next.inj hx] <;> split
  · exact moved _ rfl rfl
  · exact h
  · exact moved _ rfl rfl
  · exact h

/-- A command keeps the law: ticks and samples leave the board list alone, the resets start it afresh, the line goes on by
frame starts, and a request keeps it by its row. -/
theorem SignLaw.exec {s t : State} (h : SignLaw s) (i : Instr) (hx : Machine.exec i s = .next t) : SignLaw t := by
  have guarded : ∀ (b : Bool) u, QuietSigns s u →
      Host.Outcome.next (if b then u else s) = Host.Outcome.next (φ := Fault) (ρ := Refusal) t → SignLaw t :=
    fun b u hu hx => by
      cases hx
      split
      · exact h.quiet hu
      · exact h
  have tick := secondTick_quietSigns s
  cases i with
  | powerOn straps => exact Host.Outcome.next.inj hx ▸ (powerOn_signLaw straps).quiet (.same rfl rfl rfl rfl)
  | lineReset straps => exact Host.Outcome.next.inj hx ▸ (lineReset_signLaw straps s).quiet (settle_quietSigns _)
  | secondTick => exact Host.Outcome.next.inj hx ▸ h.quiet tick
  | minuteTick | agingTick | retirement => exact guarded _ _ tick hx
  | qualifiedTransition l levels | lineArming l levels => exact guarded _ _ (sampleLines_quietSigns levels s) hx
  | millisecondSample levels => exact Host.Outcome.next.inj hx ▸ h.quiet (sampleLines_quietSigns levels s)
  | frameCompletion =>
    obtain rfl | rfl | rfl := exec_frameCompletion hx
    · exact h
    · exact startFrame_signLaw h.board.dirty h.scan
    · exact startFrame_signLaw h.raiseScan.board.dirty h.raiseScan.scan
  | resynchronisingGapEnd =>
    obtain rfl | rfl := exec_resynchronisingGapEnd hx
    · exact h
    · exact startFrame_signLaw h.board.dirty h.scan
  | pselFall p => exact h.psel (bits := []) (.inl hx)
  | pselRise p bits => exact h.psel (.inr hx)
  | status p | ackEvents p | setEvents p | readClock p | select p | readPosting p | readChanged p | readWindows p
  | readPass p | readAttraction p | setClock p | frameOpen p | frameClose p | clearDay p | configure p | release p
  | setStateOperating p | setStateDown p | setStateClosed p | bind p | unbind p | inquire p | boardSet p
  | boardSetClear p | boardOverride p | entryReport p | dispatchReport p | queueSet p | issueEarliest p | issueAt p
  | redeem p | cancel p | unknownRequest p =>
    rw [← Host.Outcome.next.inj hx]
    exact h.carryOut _ p

end Sys2Proof.Machine

namespace Sys2Proof.Proofs

open Sys2Proof.Machine

/-- Settles O58: an empty queue idles, and the command at its front keeps both laws. -/
theorem boardKept : Obligations.BoardKept := by
  intro s t hb hs hx
  have h : SignLaw s := ⟨hb, hs⟩
  unfold step at hx
  split at hx
  · cases hx
    exact ⟨hb, hs⟩
  · next i rest _ =>
    have hrest : SignLaw { s with pending := rest } := h.quiet (.same rfl rfl rfl rfl)
    obtain ⟨hboard, hscan⟩ := hrest.exec i hx
    exact ⟨hboard, hscan⟩

end Sys2Proof.Proofs
end


section
/-! PROOFS. FRAME_COMPLETION, RESYNCHRONISING_GAP_END, BOARD_SET and BOARD_OVERRIDE (R146 to R148, R152 to R156). -/

namespace Sys2Proof.Machine

/-! ## Frame starts -/

/-- Entries, the dirty set and the board line written: nothing else has changed. -/
theorem keepsBut_board (s : State) (entries : Vector BoardEntry Config.entries) (dirty : Vector Bool Config.entries)
    (board : Board) :
    KeepsBut [.entries, .dirty, .board] s { s with entries := entries, dirty := dirty, board := board } := by
  intro x hx
  cases x with
  | clock | frame => exact ⟨rfl, rfl, rfl⟩
  | passes => exact ⟨rfl, rfl⟩
  | attractions | postings | lines | refresh | ports | choice | pending => rfl
  | entries | dirty | board => simp at hx

theorem startFrame_keepsBut (s : State) : KeepsBut [.dirty, .refresh, .board] s (startFrame s) := by
  obtain ⟨dirty, refresh, board, h⟩ := startFrame_eq s
  rw [h]
  intro x hx
  cases x with
  | clock | frame => exact ⟨rfl, rfl, rfl⟩
  | passes => exact ⟨rfl, rfl⟩
  | attractions | postings | lines | entries | ports | choice | pending => rfl
  | dirty | refresh | board => simp at hx

theorem startFrame_port (s : State) (q : PortNo) : (startFrame s).port q = s.port q :=
  port_congr (startFrame_keepsBut s .ports (by simp)) q

theorem raiseScan_keepsBut (s : State) : KeepsBut [.ports] s (raiseScan s) := by
  intro x hx
  cases x with
  | clock | frame => exact ⟨rfl, rfl, rfl⟩
  | passes => exact ⟨rfl, rfl⟩
  | attractions | postings | lines | entries | dirty | refresh | board | choice | pending => rfl
  | ports => simp at hx

/-- A frame start chooses and sends as R152 to R154 say. -/
theorem startFrame_frameStart (s : State) : FrameStart s (startFrame s) where
  idle h := by
    rw [startFrame_of_none h]
    exact ⟨rfl, rfl, rfl⟩
  dirty e b hd hb hlow := by
    rw [startFrame_of_dirty (lowestDirty_eq_some hd (valid_of_binding hb) hlow) hb]
    refine ⟨rfl, fun x => ?_, _, rfl, frameOf_sends ..⟩
    rw [getElem_set_fin]
    by_cases hx : x = e <;> simp [hx]
  refresh e b hclean hnext hb := by
    have hnone : lowestDirty s = none := lowestDirty_eq_none fun x hx => by
      rw [hclean x] at hx
      cases hx
    rw [startFrame_of_refresh hnone (nextRefresh_eq_some hnext) hb]
    refine ⟨rfl, fun x => ?_, _, congrArg (Board.sending _) (lastValid_eq s e), frameOf_sends ..⟩
    rw [getElem_set_fin, hclean x, ite_self]

/-- A SCAN raised before a frame start is no matter to it. -/
theorem FrameStart.afterScan {s t : State} (h : FrameStart (raiseScan s) t) : FrameStart s t :=
  ⟨h.idle, h.dirty, h.refresh⟩

/-! ## BOARD_SET -/

/-- A BOARD_SET with a valid byte of 0 is a clear, and any other falls under a set (log 7). -/
theorem names_boardSet (entry valid address attraction content : Byte) :
    Names (if valid = 0 then .boardSetClear else .boardSet) [entry, valid, address, attraction, content] := by
  have hzero : some valid.toNat = some 0 ↔ valid = 0 := by
    rw [Option.some_inj, ← BitVec.toNat_inj]
    rfl
  intro request hk ha
  have hkind : Row.kind (if valid = 0 then .boardSetClear else .boardSet) = 0x18 := by split <;> rfl
  rw [rowOf_boardSet (hk.trans hkind), ha 1]
  exact if_congr hzero rfl rfl

theorem takes_boardSet {s : State} {p : PortNo} {entry valid address attraction content : Byte}
    (hs : Sent s p 0x18 [entry, valid, address, attraction, content]) (hr : (s.port p).role = .ops) (hv : valid ≠ 0) :
    Takes .boardSet s p [entry, valid, address, attraction, content] :=
  ⟨hs, by simpa only [if_neg hv] using names_boardSet entry valid address attraction content, by simp, by rw [hr]; rfl⟩

theorem takes_boardSetClear {s : State} {p : PortNo} {entry address attraction content : Byte}
    (hs : Sent s p 0x18 [entry, 0, address, attraction, content]) (hr : (s.port p).role = .ops) :
    Takes .boardSetClear s p [entry, 0, address, attraction, content] :=
  ⟨hs, names_boardSet entry 0 address attraction content, by simp, by rw [hr]; rfl⟩

/-- A set whose entry, valid byte, address, attraction or content is out of range is refused with BAD_ARGUMENT (R146, R184). -/
theorem boardSetBody_badArgument {p : PortNo} {entry valid address attraction content : Byte} (s : State)
    (h : 63 < entry.toNat ∨ valid ≠ 1 ∨ address = 0 ∨ address = 255 ∨ 47 < attraction.toNat ∨ 1 < content.toNat) :
    Row.boardSet.body p [entry, valid, address, attraction, content] s = reject .badArgument := by
  unfold Row.body boardSetBody
  simp only []
  split
  · next e a c he ha hc =>
    refine if_pos ?_
    obtain h | h | h | h | h | h := h
    · simp [entryOf_none h] at he
    · exact .inl h
    · exact .inr (.inl h)
    · exact .inr (.inr h)
    · simp [attrOf_none h] at ha
    · simp [contentOf_none h] at hc
  · rfl

theorem boardSetBody_bind {p : PortNo} {address : Byte} (s : State) (e : EntryNo) (a : AttrNo) (c : Content)
    (h0 : address ≠ 0) (h255 : address ≠ 255) :
    Row.boardSet.body p [byte e.val, 1, address, byte a.val, byte c.code] s =
      accept (bindEntry e ⟨address.toNat, a, c⟩ s)
        [byte e.val, 1, address, byte a.val, byte c.code, byte s.entries[e].override] := by
  have hrange : ¬ ((1 : Byte) ≠ 1 ∨ address = 0 ∨ address = 255) := by tauto
  simp only [Row.body, boardSetBody, entryOf_byte, attrOf_byte, contentOf_code, if_neg hrange, entryReply, byte_toNat]

/-- A clear takes the binding, the override code and the place in the dirty set away (R147). -/
theorem boardSetClearBody_entry {p : PortNo} {valid address attraction content : Byte} (s : State) (e : EntryNo) :
    Row.boardSetClear.body p [byte e.val, valid, address, attraction, content] s =
      accept { s with entries := s.entries.set e ⟨none, 0⟩, dirty := s.dirty.set e false } [byte e.val, 0, 0, 0, 0, 0] := by
  simp only [Row.body, boardSetClearBody, entryOf_byte]
  rfl

/-- An IDLE line starts the frame of the entry that a set binds, the one entry dirty (R146, R152 to R154). -/
theorem startFrame_bound {s : State} {e : EntryNo} (b : SignBinding) (h : ∀ y : EntryNo, s.dirty[y] = false) :
    startFrame (s.bound e b) =
      { s.bound e b with
        dirty := (s.bound e b).dirty.set e false
        board := .sending (frameOf b s.entries[e].override s.postings[b.attraction]) false } := by
  have hentry : (s.bound e b).entries[e] = ⟨some b, s.entries[e].override⟩ := by rw [bound_entry, if_pos rfl]
  have hb : (s.bound e b).entries[e].binding = some b := by rw [hentry]
  have hlow : lowestDirty (s.bound e b) = some e :=
    lowestDirty_eq_some (by rw [bound_dirty, if_pos rfl]) (valid_of_binding hb) fun y hy => by
      rw [bound_dirty, if_neg hy.ne, h y]
  rw [startFrame_of_dirty hlow hb, State.sends, hentry]
  rfl

/-- With the line IDLE no entry is valid, and so none is dirty (R150, R152). -/
theorem BoardLaw.clean {s : State} (h : BoardLaw s) (hb : s.board = .idle) (e : EntryNo) : s.dirty[e] = false := by
  refine Bool.eq_false_iff.mpr fun hd => ?_
  have hv := (anyValid_eq_false s).mp (h.idle hb) e
  rw [h.dirty e hd] at hv
  cases hv

/-- What a set leaves: its entry bound, every other as it was, and its frame in flight where the line was IDLE (R146, R149,
R152, R154). -/
theorem bindEntry_spec {s : State} (h : BoardLaw s) (e : EntryNo) (b : SignBinding) :
    KeepsBut [.entries, .dirty, .board] s (bindEntry e b s) ∧
      (bindEntry e b s).entries[e] = ⟨some b, s.entries[e].override⟩ ∧
      (∀ x : EntryNo, x ≠ e →
        (bindEntry e b s).entries[x] = s.entries[x] ∧ (bindEntry e b s).dirty[x] = s.dirty[x]) ∧
      (s.board ≠ .idle → (bindEntry e b s).board = s.board ∧ (bindEntry e b s).dirty[e] = true) ∧
      (s.board = .idle → (bindEntry e b s).dirty[e] = false ∧
        (bindEntry e b s).board = .sending (frameOf b s.entries[e].override s.postings[b.attraction]) false) := by
  rw [bindEntry_eq]
  by_cases hi : s.board = .idle
  · rw [if_pos hi, startFrame_bound b (h.clean hi)]
    refine ⟨keepsBut_board s _ _ _, (bound_entry ..).trans (if_pos rfl), fun x hx => ?_, (absurd hi ·), fun _ => ?_⟩
    · refine ⟨(bound_entry ..).trans (if_neg hx), ?_⟩
      rw [getElem_set_fin, if_neg hx, bound_dirty, if_neg hx]
    · rw [getElem_set_fin, if_pos rfl]
      exact ⟨rfl, rfl⟩
  · rw [if_neg hi]
    exact ⟨keepsBut_board s _ _ s.board, (bound_entry ..).trans (if_pos rfl),
      fun x hx => ⟨(bound_entry ..).trans (if_neg hx), (bound_dirty ..).trans (if_neg hx)⟩,
      fun _ => ⟨rfl, (bound_dirty ..).trans (if_pos rfl)⟩, (absurd · hi)⟩

theorem Settled.board {s t : State} (h : Settled s) (k : KeepsBut [.entries, .dirty, .board] s t) : Settled t :=
  h.same (k .ports (by simp)) (k .postings (by simp)) (k .attractions (by simp))

/-! ## BOARD_OVERRIDE -/

theorem boardOverrideBody_badArgument {p : PortNo} {entry code : Byte} (s : State)
    (h : 63 < entry.toNat ∨ 15 < code.toNat) : Row.boardOverride.body p [entry, code] s = reject .badArgument := by
  unfold Row.body boardOverrideBody
  simp only []
  split
  · next e he =>
    refine if_pos (h.resolve_left fun hn => ?_)
    simp [entryOf_none hn] at he
  · rfl

/-- The override code replaced, and a valid entry marked dirty (R148). -/
theorem boardOverrideBody_entry {p : PortNo} {code : Byte} (s : State) (e : EntryNo) (h : code.toNat ≤ 15) :
    Row.boardOverride.body p [byte e.val, code] s =
      accept
        { s with
          entries := s.entries.set e ⟨s.entries[e].binding, code.toNat⟩
          dirty := if s.entries[e].binding.isSome then s.dirty.set e true else s.dirty } [byte e.val, code] := by
  have hmark : markDirty e (s.setEntry e { s.entries[e] with override := code.toNat }) = _ := markDirty_eq ..
  rw [valid_setEntry, if_pos rfl] at hmark
  simp only [Row.body, boardOverrideBody, entryOf_byte, if_neg (Nat.not_lt.mpr h), hmark]
  rfl

end Sys2Proof.Machine

namespace Sys2Proof.Proofs

open Sys2Proof.Machine

/-- Settles O15: SCAN where the frame in flight ended a pass, and then the frame start. -/
theorem frameCompletionAndGapEnd : Obligations.FrameCompletionAndGapEnd := by
  refine ⟨fun s f passEnd hb => ?_, fun s hb => ?_⟩
  · have hx : exec .frameCompletion s = .next (startFrame (if passEnd then raiseScan s else s)) :=
      congrArg Host.Outcome.next (by rw [hb])
    cases passEnd with
    | false =>
      refine ⟨_, hx, startFrame_frameStart s, fun x hn => startFrame_keepsBut s x (by simp_all), fun q => ?_⟩
      rw [if_neg (by simp)]
      exact startFrame_port s q
    | true =>
      refine ⟨_, hx, (startFrame_frameStart (raiseScan s)).afterScan, fun x hn => ?_, fun q => ?_⟩
      · exact Part.same_trans (raiseScan_keepsBut s x (by simp_all)) (startFrame_keepsBut _ x (by simp_all))
      · simp only [if_true, true_and]
        rw [startFrame_port, raiseScan_port]
  · exact ⟨startFrame s, congrArg Host.Outcome.next (by rw [hb]), startFrame_frameStart s, startFrame_keepsBut s⟩

/-- Settles O40: the refusals by the fields out of range, the set with its frame start where the line is IDLE, and the clear. -/
theorem boardSet : Obligations.BoardSet := by
  refine ⟨?_, ?_, ?_⟩
  · intro s p entry valid address attraction content hsent hr h0 h1
    exact (takes_boardSet hsent hr h0).refuses (boardSetBody_badArgument s (.inr (.inl h1)))
  · intro s p entry address attraction content hs hlaw hsent hr
    have ht := takes_boardSet hsent hr (by decide)
    refine ⟨fun h => ht.refuses (boardSetBody_badArgument s (by tauto)), ?_⟩
    rintro e a c rfl rfl rfl h0 h255
    obtain ⟨hkeeps, hentry, hothers, hbusy, hidle⟩ := bindEntry_spec hlaw e ⟨address.toNat, a, c⟩
    refine ⟨bindEntry e ⟨address.toNat, a, c⟩ s, ?_, hkeeps, hentry, hothers, hbusy, fun hi => ?_⟩
    · have hx := ht.exec (boardSetBody_bind s e a c h0 h255)
      rwa [settle_of_settled (hs.board hkeeps)] at hx
    · obtain ⟨hclean, hboard⟩ := hidle hi
      exact ⟨hclean, _, hboard, frameOf_sends ..⟩
  · intro s p entry address attraction content hs hsent hr
    have ht := takes_boardSetClear hsent hr
    refine ⟨fun h => ht.refuses (by simp [Row.body, boardSetClearBody, entryOf_none h]), ?_⟩
    rintro e rfl
    exact ht.grants (boardSetClearBody_entry s e) (hs.board (keepsBut_board s _ _ s.board))

/-- Settles O41: the role, the ranges, and the code written whether or not the entry is valid. -/
theorem boardOverride : Obligations.BoardOverride := by
  intro s p entry code hs hsent
  refine ⟨fun hr => ?_, fun hr h => ?_, ?_⟩
  · rw [Refuses]
    exact congrArg _ (carryOut_notPermitted (row := .boardOverride) _ hsent (names_alone rfl _) (by simp)
      (by simp [permits, hr]))
  · exact (takes_ops (row := .boardOverride) hsent rfl hr rfl).refuses (boardOverrideBody_badArgument s h)
  · rintro e hr rfl hc
    have ht : Takes .boardOverride s p [byte e.val, code] := takes_ops hsent rfl hr rfl
    exact ht.grants (boardOverrideBody_entry s e hc) (hs.board (keepsBut_board s _ _ s.board))

end Sys2Proof.Proofs
end


section
/-! PROOFS. The bits of bytes, the descriptor's bytes, and a sign frame on BOARD_TX (R151, R156, R158, R186, R188). -/

namespace Sys2Proof.Machine

/-! ## Bits of bytes -/

/-- A byte is the sum of its bits (R158). -/
theorem byte_of_bits (b : Byte) :
    byte (bit (b.getLsbD 7) 7 + bit (b.getLsbD 6) 6 + bit (b.getLsbD 5) 5 + bit (b.getLsbD 4) 4 + bit (b.getLsbD 3) 3 +
      bit (b.getLsbD 2) 2 + bit (b.getLsbD 1) 1 + bit (b.getLsbD 0) 0) = b := by
  revert b
  decide +kernel

theorem bitsOfByte_eq (b : Byte) :
    bitsOfByte b = [b.getLsbD 7, b.getLsbD 6, b.getLsbD 5, b.getLsbD 4, b.getLsbD 3, b.getLsbD 2, b.getLsbD 1,
      b.getLsbD 0] := rfl

/-- Fewer than eight bits hold no whole byte (R158). -/
theorem bytesOfBits_short {left : List Bool} (h : left.length < 8) : bytesOfBits left = [] := by
  match left, h with
  | [], _ | [_], _ | [_, _], _ | [_, _, _], _ | [_, _, _, _], _ | [_, _, _, _, _], _ | [_, _, _, _, _, _], _
  | [_, _, _, _, _, _, _], _ => rfl

theorem bytesOfBits_bitsOfBytes (bytes : List Byte) {left : List Bool} (h : left.length < 8) :
    bytesOfBits (bitsOfBytes bytes ++ left) = bytes := by
  induction bytes with
  | nil => exact bytesOfBits_short h
  | cons b bytes ih =>
    have hcons : bitsOfBytes (b :: bytes) ++ left = bitsOfByte b ++ (bitsOfBytes bytes ++ left) := by
      simp [bitsOfBytes]
    rw [hcons, bitsOfByte_eq]
    simp only [List.cons_append, List.nil_append, bytesOfBits, byte_of_bits, ih]

/-! ## The descriptor -/

/-- A number of two bytes is what its two bytes form (R183). -/
theorem u16_be16 {n : Nat} (h : n < 65536) : u16 (byte (n / 256)) (byte n) = n := by
  rw [u16, toNat_byte, toNat_byte]
  omega

/-- Every field in range fits its byte or its two (R20, R183). -/
theorem readDescriptor_descriptorBytes {d : Descriptor} (h : d.inRange = true) :
    readDescriptor (descriptorBytes d) = some d := by
  obtain ⟨_, _, _, _, _, _, _, _, _, _, _, _, _, _, _, _, _⟩ := (inRange_iff d).mp h
  simp (disch := omega) only [descriptorBytes, be16, List.cons_append, List.nil_append, readDescriptor, u16_be16,
    toNat_byte_lt]

/-! ## The bytes of a sign frame -/

/-- Byte n + 1 of a sign frame (section 11.4, R188). -/
def SignFrame.byteAt (f : SignFrame) : Fin 8 → Byte :=
  ![byte f.address, byte f.kind.code, byte f.high, byte f.low, byte (bit f.overFlag 0 + bit f.aged 1), byte f.override,
    byte (f.check / 256), byte f.check]

theorem SignFrame.bytes_eq (f : SignFrame) : f.bytes = List.ofFn f.byteAt := rfl

theorem SignFrame.flags_byte (f : SignFrame) :
    (f.byteAt 4).toNat = (if f.overFlag then 1 else 0) + (if f.aged then 2 else 0) := by
  have h : (f.byteAt 4).toNat = (byte (bit f.overFlag 0 + bit f.aged 1)).toNat := rfl
  rw [h]
  cases f.overFlag <;> cases f.aged <;> rfl

/-- Six bytes never sum past two bytes, so the check is their sum (R188). -/
theorem SignFrame.check_eq (f : SignFrame) :
    256 * (f.byteAt 6).toNat + (f.byteAt 7).toNat =
      (f.byteAt 0).toNat + (f.byteAt 1).toNat + (f.byteAt 2).toNat + (f.byteAt 3).toNat + (f.byteAt 4).toNat +
        (f.byteAt 5).toNat := by
  have hsum : (f.body.map BitVec.toNat).sum = (f.byteAt 0).toNat + ((f.byteAt 1).toNat + ((f.byteAt 2).toNat +
      ((f.byteAt 3).toNat + ((f.byteAt 4).toNat + ((f.byteAt 5).toNat + 0))))) := rfl
  have hcheck : 256 * (f.byteAt 6).toNat + (f.byteAt 7).toNat = f.check :=
    u16_be16 (Nat.mod_lt _ (by decide))
  have hbyte : ∀ n, (f.byteAt n).toNat < 256 := fun n => (f.byteAt n).isLt
  have := hbyte 0
  have := hbyte 1
  have := hbyte 2
  have := hbyte 3
  have := hbyte 4
  have := hbyte 5
  rw [hcheck, SignFrame.check, hsum]
  omega

/-! ## A sign frame on the line -/

@[simp] theorem length_boardCharacter (b : Byte) : (boardCharacter b).length = 10 := by
  simp [boardCharacter]

/-- Characters of ten bits a byte stand one behind the other (R151). -/
theorem getElem?_flatMap_boardCharacter (bs : List Byte) (n k : Nat) (hk : k < 10) :
    (bs.flatMap boardCharacter)[10 * n + k]? = bs[n]?.bind fun b => (boardCharacter b)[k]? := by
  induction bs generalizing n with
  | nil => rfl
  | cons b bs ih =>
    rw [List.flatMap_cons]
    cases n with
    | zero =>
      rw [List.getElem?_append_left (by simpa using hk)]
      simp
    | succ n =>
      have hindex : 10 * (n + 1) + k - (boardCharacter b).length = 10 * n + k := by
        rw [length_boardCharacter]
        omega
      rw [List.getElem?_append_right (by rw [length_boardCharacter]; omega), hindex, ih, List.getElem?_cons_succ]

theorem SignFrame.length_characters (f : SignFrame) : (f.bytes.flatMap boardCharacter).length = 80 := by
  simp [SignFrame.bytes_eq]

theorem SignFrame.length_waveform (f : SignFrame) : f.waveform.length = 100 := by
  rw [SignFrame.waveform, List.length_append, f.length_characters, List.length_replicate]

/-- Byte n + 1 of a frame goes out as the ten bits from bit time 10 n on (R151). -/
theorem SignFrame.waveform_character (f : SignFrame) (n : Fin 8) {k : Nat} (hk : k < 10) :
    f.waveform[10 * n.val + k]? = (boardCharacter (f.byteAt n))[k]? := by
  have hbyte : f.bytes[n.val]? = some (f.byteAt n) := by
    rw [f.bytes_eq, List.getElem?_ofFn, dif_pos n.isLt]
  rw [SignFrame.waveform, List.getElem?_append_left (by rw [f.length_characters]; omega),
    getElem?_flatMap_boardCharacter _ _ _ hk, hbyte, Option.bind_some]

/-- The start bit of a character is low (R151). -/
theorem boardCharacter_start (b : Byte) : (boardCharacter b)[0]? = some false := rfl

/-- The data bits follow from the least significant on (R151). -/
theorem boardCharacter_data (b : Byte) (j : Fin 8) : (boardCharacter b)[1 + j.val]? = some (b.getLsbD j.val) := by
  simp [boardCharacter, Nat.add_comm 1, List.getElem?_append_left]

/-- The stop bit of a character is high (R151). -/
theorem boardCharacter_stop (b : Byte) : (boardCharacter b)[9]? = some true := rfl

/-- The gap behind a frame is high (R151). -/
theorem SignFrame.waveform_gap (f : SignFrame) {n : Nat} (h80 : 80 ≤ n) (h100 : n < 100) : f.waveform[n]? = some true := by
  rw [SignFrame.waveform, List.getElem?_append_right (by rw [f.length_characters]; exact h80), f.length_characters,
    List.getElem?_replicate, if_pos (by omega)]

/-! ## BOARD_TX -/

/-- The line shows the frame in flight, and past it the high level (R151). -/
theorem boardTx_sending {s : State} {f : SignFrame} {passEnd : Bool} (h : s.board = .sending f passEnd) (n : Nat) :
    s.boardTx n = f.waveform[n]?.getD true := by
  rw [State.boardTx, h, tx_sending, List.getD_eq_getElem?_getD]

end Sys2Proof.Machine

namespace Sys2Proof.Proofs

open Sys2Proof.Machine

/-- Settles O52: the bit order, the descriptor's bytes, a frame's bytes and levels, and BOARD_TX by the state of the line. -/
theorem bitsAndDescriptors : Obligations.BitsAndDescriptors := by
  refine ⟨fun bytes left h => bytesOfBits_bitsOfBytes bytes h, fun d h => ⟨rfl, readDescriptor_descriptorBytes h⟩,
    fun f => ?_, fun s n => ⟨fun hquiet => ?_, fun f passEnd h => ⟨fun b hb => ?_, fun hn => ?_⟩⟩⟩
  · refine ⟨f.byteAt, f.bytes_eq, ⟨rfl, rfl, rfl, rfl, f.flags_byte, rfl⟩, f.check_eq, f.length_waveform, fun n => ?_,
      fun n => f.waveform_gap⟩
    refine ⟨(f.waveform_character n (k := 0) (by decide)).trans (boardCharacter_start _),
      (f.waveform_character n (by decide)).trans (boardCharacter_stop _), fun j => ?_⟩
    rw [Nat.add_assoc, f.waveform_character n (by omega), boardCharacter_data]
  · rw [State.boardTx]
    obtain hb | hb := hquiet <;> rw [hb]
    · exact tx_idle n
    · exact tx_resynchronising n
  · rw [boardTx_sending h, hb, Option.getD_some]
  · rw [boardTx_sending h, List.getElem?_eq_none (by rw [f.length_waveform]; exact hn), Option.getD_none]

end Sys2Proof.Proofs
end

section
/-! PROOFS. The link of a port: what a select period shows, and the link state it leaves (R158, R160 to R163). -/

namespace Sys2Proof.Machine

/-! ## One port written -/

/-- A change of one port is no change of another part. -/
theorem updPort_keepsBut (s : State) (p : PortNo) (f : Port → Port) : KeepsBut [.ports] s (s.updPort p f) := by
  intro x hx
  cases x with
  | clock | frame => exact ⟨rfl, rfl, rfl⟩
  | passes => exact ⟨rfl, rfl⟩
  | attractions | postings | lines | entries | dirty | refresh | board | choice | pending => rfl
  | ports => simp at hx

/-! ## What a period shifts out -/

/-- Enough bytes shifted out are the bytes fixed at the fall with zeros behind them (R160). -/
theorem Period.shifted_of_le {x : Period} {n : Nat} (h : x.out.length ≤ n) :
    x.shifted n = x.out ++ List.replicate (n - x.out.length) 0 := by
  rw [Period.shifted, List.take_of_length_le h]

/-- PDO within the bytes fixed at the fall (R158). -/
theorem Period.pdo_within {x : Period} {n : Nat} {b : Byte} (h : x.out[n / 8]? = some b) :
    x.pdo n = b.getLsbD (7 - n % 8) := by
  simp [Period.pdo, List.getD, h]

/-- PDO past the bytes fixed at the fall (R160). -/
theorem Period.pdo_past {x : Period} {n : Nat} (h : 8 * x.out.length ≤ n) : x.pdo n = false := by
  have hnone : x.out[n / 8]? = none := List.getElem?_eq_none (by omega)
  simp [Period.pdo, List.getD, hnone]

/-- A marker shows its eight bits, and zeros follow (R160). -/
theorem Period.pdo_marker {x : Period} {b : Byte} (h : x.out = [b]) (n : Nat) :
    x.pdo n = (decide (n < 8) && b.getLsbD (7 - n)) := by
  by_cases hn : n < 8
  · rw [Period.pdo_within (b := b) (by rw [h, Nat.div_eq_of_lt hn]; rfl), Nat.mod_eq_of_lt hn]
    simp [hn]
  · rw [Period.pdo_past (by rw [h, List.length_singleton]; omega)]
    simp [hn]

/-- The marker of WORKING has every bit but its last (R160). -/
theorem notReady_bit (n : Nat) : (decide (n < 8) && notReady.getLsbD (7 - n)) = decide (n < 7) := by
  by_cases hn : n < 8
  · interval_cases n <;> rfl
  · simp [hn, show ¬ n < 7 by omega]

/-- The marker of IDLE has every bit (R160). -/
theorem emptyMarker_bit (n : Nat) : (decide (n < 8) && emptyMarker.getLsbD (7 - n)) = decide (n < 8) := by
  by_cases hn : n < 8
  · interval_cases n <;> rfl
  · simp [hn]

/-! ## The fall and the rise of PSEL -/

/-- A fall with PSEL high begins the period that the link state fixes (R160). -/
theorem exec_pselFall {s : State} {p : PortNo} (h : (s.port p).period = none) :
    exec (.pselFall p) s = .next (s.updPort p fun q => { q with period := some (periodOf q.link) }) := by
  simp only [exec, execPselFall, h]

/-- A rise ends the period in progress and settles the link by the whole bytes clocked in (R158, R162, R163). -/
theorem exec_pselRise {s : State} {p : PortNo} {x : Period} (h : (s.port p).period = some x) (bytes : List Byte)
    {left : List Bool} (hl : left.length < 8) :
    exec (.pselRise p (bitsOfBytes bytes ++ left)) s =
      .next (s.updPort p fun q => { q with link := linkAfterRise x bytes q.link, period := none }) := by
  simp only [exec, execPselRise, h, bytesOfBits_bitsOfBytes bytes hl]

/-- A period's bytes carry a request where there is a first byte and it is not 0 (R161). -/
theorem carriesRequest_iff (bytes : List Byte) :
    carriesRequest bytes = true ↔ ∃ kind rest, bytes = kind :: rest ∧ kind ≠ 0 := by
  cases bytes with
  | nil => simp [carriesRequest]
  | cons kind rest => simp [carriesRequest]

/-- Bytes carry no request where the first, if there is one, is 0 (R161). -/
theorem carriesRequest_eq_false {bytes : List Byte} (h : ∀ kind rest, bytes = kind :: rest → kind = 0) :
    carriesRequest bytes = false := by
  rw [Bool.eq_false_iff, ne_eq, carriesRequest_iff]
  rintro ⟨kind, rest, he, hk⟩
  exact hk (h kind rest he)

/-- A request taken from a port that is not WORKING is held up to its 35th byte (R163, R165). -/
theorem linkAfterRise_request {x : Period} (hx : x.atFall ≠ .working) {bytes : List Byte}
    (h : carriesRequest bytes = true) (link : Link) : linkAfterRise x bytes link = .working (bytes.take 35) := by
  unfold linkAfterRise
  cases hf : x.atFall with
  | working => exact absurd hf hx
  | idle | ready => simp [h, longestRequest]

end Sys2Proof.Machine

namespace Sys2Proof.Proofs

open Sys2Proof.Machine

/-- Settles O16: the period begun is the one its link state fixes, and PDO shows that period's bits. -/
theorem selectFall : Obligations.SelectFall := by
  intro s p h
  refine ⟨_, periodOf (s.port p).link, exec_pselFall h, ?_, ?_, fun q => port_updPort_ne s _, updPort_keepsBut s p _,
    pdo_released h, fun reply hl => ?_, fun request hl => ?_, fun hl => ?_⟩
  · rw [port_updPort_self]
  · rw [port_updPort_self]
  all_goals
    have shows : ∀ n, (s.updPort p fun q => { q with period := some (periodOf q.link) }).pdo p n =
        some ((periodOf (s.port p).link).pdo n) :=
      fun n => pdo_driven (by rw [port_updPort_self]) n
    simp only [shows, hl]
  · refine ⟨rfl, fun n => Period.shifted_of_le (x := periodOf (.ready reply)), fun n => ⟨fun b hb => ?_, fun hn => ?_⟩⟩
    · rw [Period.pdo_within hb]
    · rw [Period.pdo_past hn]
  · refine ⟨rfl, fun n => ⟨Period.shifted_of_le (x := periodOf (.working request)), ?_⟩⟩
    rw [Period.pdo_marker (b := notReady) rfl, notReady_bit]
  · refine ⟨rfl, fun n => ⟨Period.shifted_of_le (x := periodOf .idle), ?_⟩⟩
    rw [Period.pdo_marker (b := emptyMarker) rfl, emptyMarker_bit]

/-- Settles O17: the table of R163, row by row of the link state at the fall. -/
theorem selectRise : Obligations.SelectRise := by
  intro s p x bytes left h hleft
  refine ⟨_, exec_pselRise h bytes hleft, ?_, fun q => port_updPort_ne s _, updPort_keepsBut s p _,
    pdo_released ?_, ?_⟩
  · rw [port_updPort_self]
  · rw [port_updPort_self]
  simp only [port_updPort_self]
  refine ⟨fun hx => ?_, fun hx hb => linkAfterRise_request hx ((carriesRequest_iff bytes).mpr hb) _, fun hx hb => ?_,
    fun hx hb => ?_⟩
  · simp only [linkAfterRise, hx]
  · simp [linkAfterRise, hx, carriesRequest_eq_false hb]
  · simp [linkAfterRise, hx, carriesRequest_eq_false hb]

end Sys2Proof.Proofs
end

section
/-! PROOFS. The queue of waiting commands: what a step takes from it, and that no command touches it (R164; log 2). -/

namespace Sys2Proof.Machine

/-! ## Effects that leave the queue alone -/

/-- The queue of waiting commands is the same in two states. -/
def SameQueue (s t : State) : Prop := t.pending = s.pending

theorem SameQueue.rfl {s : State} : SameQueue s s := Eq.refl _

theorem SameQueue.trans {s t u : State} (h : SameQueue s t) (k : SameQueue t u) : SameQueue s u := Eq.trans k h

theorem SameQueue.settle {s t : State} (h : SameQueue s t) : SameQueue s (settle t) := (settle_pending t).trans h

/-- An event that keeps every part but some others keeps the queue. -/
theorem KeepsBut.sameQueue {touched : List Part} {s t : State} (h : KeepsBut touched s t) (hq : .pending ∉ touched) :
    SameQueue s t := h .pending hq

theorem startFrame_sameQueue (s : State) : SameQueue s (startFrame s) := (startFrame_keepsBut s).sameQueue (by simp)

theorem markDirty_setEntry_sameQueue (e : EntryNo) (x : BoardEntry) (s : State) :
    SameQueue s (markDirty e (s.setEntry e x)) := by
  unfold markDirty
  split <;> rfl

theorem bindEntry_sameQueue (e : EntryNo) (b : SignBinding) (s : State) : SameQueue s (bindEntry e b s) := by
  have h : SameQueue s (markDirty e (s.setEntry e { s.entries[e] with binding := some b })) :=
    markDirty_setEntry_sameQueue ..
  unfold bindEntry
  simp only []
  split
  · exact h.trans (startFrame_sameQueue _)
  · exact h
  · exact h

theorem writeOpen_sameQueue (o : Nat) (s : State) : SameQueue s (writeOpen o s) := by
  unfold writeOpen
  split <;> rfl

theorem writeClose_sameQueue (z : Nat) (s : State) : SameQueue s (writeClose z s) := by
  unfold writeClose
  split <;> rfl

theorem moveClose_sameQueue (z : Nat) (s : State) : SameQueue s (moveClose z s) := by
  unfold moveClose
  split <;> rfl

theorem clearDay_sameQueue (s : State) : SameQueue s (clearDay s) := (clearDay_keepsBut s).sameQueue (by simp)

theorem configureNew_sameQueue (a : AttrNo) (d : Descriptor) (s : State) : SameQueue s (configureNew a d s) :=
  (configureNew_keepsBut a d s).sameQueue (by simp)

theorem configureUsed_sameQueue (a : AttrNo) (d : Descriptor) (s : State) : SameQueue s (configureUsed a d s) :=
  (configureUsed_keepsBut a d s).sameQueue (by simp)

theorem toDown_sameQueue (a : AttrNo) (s : State) : SameQueue s (toDown a s) := (toDown_keepsBut a s).sameQueue (by simp)

theorem toClosed_sameQueue (a : AttrNo) (s : State) : SameQueue s (toClosed a s) :=
  (toClosed_keepsBut a s).sameQueue (by simp)

theorem issueInto_sameQueue (p : PortNo) (a : AttrNo) (w n : Nat) (s : State) :
    Leaves (SameQueue s) (issueInto p a w n s) := by
  unfold issueInto
  split
  · trivial
  · next t id h =>
    obtain ⟨i, rest, -, -, rfl⟩ := allocate_eq_some h
    exact .rfl

/-- Every row's body leaves the queue alone. -/
theorem body_sameQueue (row : Row) (p : PortNo) (args : List Byte) (s : State) :
    Leaves (SameQueue s) (row.body p args s) := by
  cases row
  all_goals
    simp only [Row.body, statusBody, ackEventsBody, setEventsBody, readClockBody, selectBody, readPostingBody,
      readChangedBody, readWindowsBody, readPassBody, readAttractionBody, setClockBody, frameOpenBody, frameCloseBody,
      clearDayBody, configureBody, releaseBody, setStateOperatingBody, setStateDownBody, setStateClosedBody, bindBody,
      unbindBody, inquireBody, boardSetBody, boardSetClearBody, boardOverrideBody, entryReportBody, dispatchReportBody,
      queueSetBody, issueEarliestBody, issueAtBody, redeemBody, cancelBody, unknownBody]
    repeat' split
  all_goals
    simp only [leaves_reject, leaves_error, leaves_accept, writeOpen_sameQueue, writeClose_sameQueue,
      moveClose_sameQueue, clearDay_sameQueue, configureNew_sameQueue, configureUsed_sameQueue, toDown_sameQueue,
      toClosed_sameQueue, bindEntry_sameQueue, markDirty_setEntry_sameQueue, issueInto_sameQueue]
  all_goals exact .rfl

/-- A request, refused or accepted, leaves the queue alone. -/
theorem carryOut_sameQueue (row : Row) (p : PortNo) (s : State) : SameQueue s (carryOut row row.body p s) := by
  unfold carryOut
  split
  · next request _ =>
    split
    · unfold judge
      split
      · exact .rfl
      · next args _ =>
        split
        · exact .rfl
        · split
          · have hbody := body_sameQueue row p args s
            match row.body p args s, hbody with
            | .ok (t, _), hbody => exact hbody
            | .error _, _ => exact .rfl
          · exact .rfl
    · exact .rfl
  · exact .rfl
  · exact .rfl

/-! ## Ticks and samples -/

theorem secondTick_sameQueue (s : State) : SameQueue s (secondTick s) := by
  have clock : SameQueue s (clockTick s) := (clockTick_quiet s).1.sameQueue (by simp)
  have work : ∀ m w t, SameQueue t (tickWork m w t) := fun m w t => by
    have htouches : tickWork m w t = _ := tickWork_touchesBook m w t
    rw [htouches]
    exact .rfl
  have started : SameQueue s { clockTick s with choice := (clockTick s).choice + 1 } := clock
  unfold secondTick
  refine SameQueue.settle ?_
  split
  · exact foldl_keeps (P := SameQueue s) (fun t w h => (h.trans (work _ w t)).settle) _ _ started
  · exact clock

theorem sampleLines_sameQueue (levels : Levels) (s : State) : SameQueue s (sampleLines levels s) := by
  have line : ∀ l t, SameQueue t (lineWork levels l t) := fun l t => by
    obtain ⟨a, f, h⟩ := lineWork_eq levels l t
    rw [h]
    exact .rfl
  exact foldl_keeps (P := SameQueue s) (fun t l h => (h.trans (line l t)).settle) _ _
    (show SameQueue s { s with choice := s.choice + 1 } from .rfl)

/-! ## Every command -/

/-- Every command answers a next state with the queue it was given. -/
theorem exec_sameQueue (i : Instr) (s : State) : ∃ t, exec i s = .next t ∧ SameQueue s t := by
  have guarded : ∀ (b : Bool) {u : State}, SameQueue s u → SameQueue s (if b then u else s) := fun b u hu => by
    cases b
    · exact .rfl
    · exact hu
  have tick := secondTick_sameQueue s
  have start := startFrame_sameQueue
  cases i with
  | powerOn straps => exact ⟨_, rfl, .rfl⟩
  | lineReset straps => exact ⟨_, rfl, .rfl⟩
  | secondTick => exact ⟨_, rfl, tick⟩
  | minuteTick | agingTick | retirement => exact ⟨_, rfl, guarded _ tick⟩
  | qualifiedTransition l levels | lineArming l levels => exact ⟨_, rfl, guarded _ (sampleLines_sameQueue levels s)⟩
  | millisecondSample levels => exact ⟨_, rfl, sampleLines_sameQueue levels s⟩
  | frameCompletion =>
    refine ⟨_, rfl, ?_⟩
    obtain h | h | h := exec_frameCompletion (s := s) rfl <;> rw [h]
    · exact .rfl
    · exact start s
    · exact start (raiseScan s)
  | resynchronisingGapEnd =>
    refine ⟨_, rfl, ?_⟩
    obtain h | h := exec_resynchronisingGapEnd (s := s) rfl <;> rw [h]
    · exact .rfl
    · exact start s
  | pselFall p =>
    refine ⟨_, rfl, ?_⟩
    obtain h | ⟨f, h⟩ := exec_psel (s := s) (bits := []) (.inl rfl) <;> rw [h] <;> exact .rfl
  | pselRise p bits =>
    refine ⟨_, rfl, ?_⟩
    obtain h | ⟨f, h⟩ := exec_psel (s := s) (.inr rfl) <;> rw [h] <;> exact .rfl
  | status p | ackEvents p | setEvents p | readClock p | select p | readPosting p | readChanged p | readWindows p
  | readPass p | readAttraction p | setClock p | frameOpen p | frameClose p | clearDay p | configure p | release p
  | setStateOperating p | setStateDown p | setStateClosed p | bind p | unbind p | inquire p | boardSet p
  | boardSetClear p | boardOverride p | entryReport p | dispatchReport p | queueSet p | issueEarliest p | issueAt p
  | redeem p | cancel p | unknownRequest p => exact ⟨_, rfl, carryOut_sameQueue _ p s⟩

end Sys2Proof.Machine

namespace Sys2Proof.Proofs

open Sys2Proof.Machine

/-- Settles O1: by the two cases of the queue. -/
theorem stepTakesTheFrontCommand : Obligations.StepTakesTheFrontCommand := by
  refine ⟨fun c rest s => rfl, fun s h => ?_⟩
  rw [step, h]

/-- Settles O2: by the command, requests through their rows' bodies. -/
theorem everyCommandAnswersNext : Obligations.EveryCommandAnswersNext := exec_sameQueue

end Sys2Proof.Proofs
end

section
/-! PROOFS. Request frames: a whole one opens by its sum, and a cut or damaged one does not (R165, R166). -/

namespace Sys2Proof.Machine

/-! ## Sums of frames -/

/-- A check byte makes the sum of the bytes before it and itself 0 (R165, R166). -/
theorem sum_checkByte (bs : List Byte) : (bs ++ [checkByte bs]).sum = 0 := by
  simp [checkByte]

theorem sum_requestFrame (kind : Byte) (args : List Byte) : (requestFrame kind args).sum = 0 := sum_checkByte _

theorem sum_replyFrame (echo code : Byte) (data : List Byte) : (replyFrame echo code data).sum = 0 := sum_checkByte _

@[simp] theorem length_requestFrame (kind : Byte) (args : List Byte) :
    (requestFrame kind args).length = args.length + 3 := by
  simp [requestFrame]

@[simp] theorem length_replyFrame (echo code : Byte) (data : List Byte) :
    (replyFrame echo code data).length = data.length + 4 := by
  simp [replyFrame]

/-- Another byte in one place makes another sum. -/
theorem sum_set_ne {bs : List Byte} {n : Nat} {b : Byte} (hn : n < bs.length) (hb : bs[n]? ≠ some b) :
    (bs.set n b).sum ≠ bs.sum := by
  rw [List.sum_set', dif_pos hn]
  intro h
  have hz : -bs[n] + b = 0 := by simpa using h
  exact hb (by rw [List.getElem?_eq_getElem hn, neg_add_eq_zero.mp hz])

/-! ## Opening a frame -/

/-- A frame whose length byte counts its arguments opens where its bytes sum to 0, whatever bytes follow it (R165). -/
theorem openFrame_whole {frame : List Byte} {m : Nat} (hm : m ≤ 32) (hlen : frame.length = m + 3)
    (hbyte : frame[1]? = some (byte m)) (extra : List Byte) :
    openFrame (frame ++ extra) = if frame.sum = 0 then some ((frame.drop 2).take m) else none := by
  match frame, hbyte with
  | kind :: _ :: rest, rfl =>
    have hr : rest.length = m + 1 := by simpa using hlen
    have hn : (byte m).toNat = m := toNat_byte_lt (by omega)
    have hwhole : (rest ++ extra).take (m + 1) = rest := by rw [← hr, List.take_left]
    have hargs : (rest ++ extra).take m = rest.take m := List.take_append_of_le_length (by omega)
    simp only [List.cons_append, openFrame, hn, hwhole, hargs, if_neg (show ¬ 32 < m by omega),
      if_neg (show ¬ (rest ++ extra).length < m + 1 by rw [List.length_append]; omega), List.drop_succ_cons, List.drop_zero]

/-- Fewer bytes than the length byte calls for open to nothing (R165). -/
theorem openFrame_short {frame : List Byte} {m : Nat} (hm : m ≤ 32) (hlen : frame.length < m + 3)
    (hbyte : ∀ b, frame[1]? = some b → b = byte m) : openFrame frame = none := by
  match frame, hbyte with
  | [], _ | [_], _ => rfl
  | kind :: n :: rest, hbyte =>
    obtain rfl : n = byte m := hbyte n rfl
    have hr : rest.length < m + 1 := by simpa using hlen
    have hn : (byte m).toNat = m := toNat_byte_lt (by omega)
    simp only [openFrame, hn, if_neg (show ¬ 32 < m by omega), if_pos hr]

end Sys2Proof.Machine

namespace Sys2Proof.Proofs

open Sys2Proof.Machine

/-- Settles O51: a whole frame by its sum, a cut one by its length, and a damaged one by the sum that its byte moves. -/
theorem requestFrames : Obligations.RequestFrames := by
  intro kind args extra h
  have hlen := length_requestFrame kind args
  have hbyte : (requestFrame kind args)[1]? = some (byte args.length) := rfl
  refine ⟨?_, fun n hn => ?_, fun n b h1 hn hb => ?_, fun echo code data => ⟨sum_replyFrame echo code data, fun hd => ?_⟩⟩
  · rw [openFrame_whole h hlen hbyte, if_pos (sum_requestFrame kind args)]
    simp [requestFrame]
  · refine openFrame_short h (by rw [List.length_take]; omega) fun b hb => ?_
    rw [List.getElem?_take] at hb
    split at hb
    · exact Option.some.inj (hb.symm.trans hbyte)
    · cases hb
  · rw [openFrame_whole h (by rw [List.length_set, hlen]) (by rw [List.getElem?_set_ne h1, hbyte]), if_neg]
    rw [← sum_requestFrame kind args]
    exact sum_set_ne hn hb
  · refine ⟨?_, length_replyFrame echo code data⟩
    exact congrArg some (toNat_byte_lt (by omega))

end Sys2Proof.Proofs
end

section
/-! PROOFS. The checks common to every request: a kind byte's row, the roles, the argument lengths (R165 to R169, R185). -/

namespace Sys2Proof.Machine

/-! ## The row of a kind -/

/-- The rows that have their kind byte to themselves, in the order of section 11.2. -/
def ownRows : List Row :=
  [.status, .ackEvents, .setEvents, .readClock, .select, .readPosting, .readChanged, .readWindows, .readPass,
    .readAttraction, .setClock, .frameOpen, .frameClose, .clearDay, .configure, .release, .boardOverride, .entryReport,
    .dispatchReport, .queueSet, .redeem, .cancel]

/-- A known kind has one row of its own, or is SET_STATE, BIND_LINE, BOARD_SET or ISSUE (section 11.2). -/
theorem knownKinds_cases : knownKinds.Forall fun kind =>
    (∃ row ∈ ownRows, row.alone = true ∧ row.kind = kind) ∨ kind = 0x16 ∨ kind = 0x17 ∨ kind = 0x18 ∨ kind = 0x30 := by
  decide

/-- A row with a kind byte of its own is permitted as R168 marks that kind, whatever the arguments. -/
theorem permits_alone {row : Row} (ha : row.alone = true) (role : Role) (args : List Byte) :
    permits row role = maySend role row.kind args := by
  cases row <;> first | rfl | cases ha

/-- The row a known kind's request falls under has that kind byte, and is permitted as R168 marks the kind; of SET_STATE's
rows the one to CLOSED is not a RIDE port's (R31). -/
theorem rowOf_known {request args : List Byte} {kind : Byte} (hk : request.headD 0 = kind)
    (ha : ∀ i, argAt request i = args[i]?.map BitVec.toNat) (h : kind ∈ knownKinds) :
    (rowOf request).kind = kind ∧ ∀ role, permits (rowOf request) role = maySend role kind args := by
  obtain ⟨row, -, hal, rfl⟩ | rfl | rfl | rfl | rfl := List.forall_iff_forall_mem.mp knownKinds_cases kind h
  · rw [rowOf_alone hal hk]
    exact ⟨rfl, fun role => permits_alone hal role args⟩
  · have hclosed : argAt request 1 = some 1 ↔ args[1]? = some 1 := by
      rw [ha, Option.map_eq_some_iff]
      exact ⟨fun ⟨b, hb, h1⟩ => hb.trans (congrArg some (BitVec.eq_of_toNat_eq h1)), fun h1 => ⟨1, h1, rfl⟩⟩
    have hmark : ∀ role, maySend role 0x16 args = (role = .ops || (role = .ride && args[1]? != some 1)) := fun _ => rfl
    rw [rowOf_setState hk]
    by_cases h1 : args[1]? = some 1
    · rw [if_pos (hclosed.mpr h1)]
      exact ⟨rfl, fun role => by rw [hmark]; simp [h1, permits]⟩
    · have hmay : ∀ role, maySend role 0x16 args = (role = .ops || role = .ride) := fun role => by
        rw [hmark, bne_iff_ne.mpr h1, Bool.and_true]
      rw [if_neg (mt hclosed.mp h1)]
      split <;> exact ⟨rfl, fun role => (hmay role).symm⟩
  · rw [rowOf_bindLine hk]
    split
    · exact ⟨rfl, fun _ => rfl⟩
    · split <;> exact ⟨rfl, fun _ => rfl⟩
  · rw [rowOf_boardSet hk]
    split <;> exact ⟨rfl, fun _ => rfl⟩
  · rw [rowOf_issue hk]
    split <;> exact ⟨rfl, fun _ => rfl⟩

/-- A kind byte that is none of the 26 falls under the row of the unknown kinds (R168). -/
theorem rowOf_unknown {request : List Byte} (h : request.headD 0 ∉ knownKinds) : rowOf request = .unknownRequest := by
  have other : ∀ n, (request.headD 0).toNat = n → byte n ∉ knownKinds := fun n e => by rwa [← e, byte_toNat]
  unfold rowOf
  split
  case h_27 => rfl
  all_goals
    next e => exact absurd (by decide) (other _ e)

/-- A known kind's row is not the row of the unknown kinds (section 11.2). -/
theorem Row.ne_unknown_of_kind {row : Row} (h : row.kind ∈ knownKinds) : row ≠ .unknownRequest := by
  rintro rfl
  exact absurd h (by decide)

/-! ## The request in hand -/

/-- The command of the row that the request in hand falls under answers it by the check order (R164, R167). -/
theorem exec_inHand {s : State} {p : PortNo} {request : List Byte} (hl : (s.port p).link = .working request) {row : Row}
    (hr : rowOf request = row) :
    exec (row.command p) s = .next (answered p request s (judge row row.body p request s)) := by
  rw [exec_command, carryOut, hl]
  simp only [if_pos hr]

/-- The check order of a request of a known row in a frame that opens: the role, then the row's own steps (R167). -/
theorem judge_opened {request args : List Byte} (ho : openFrame request = some args) {row : Row}
    (hrow : row ≠ .unknownRequest) (body : Body) (p : PortNo) (s : State) :
    judge row body p request s = if permits row (s.port p).role then body p args s else reject .notPermitted := by
  simp only [judge, ho, if_neg hrow]

/-- The kind echo of a known row's request is the row's kind byte (R166). -/
theorem kindEcho_known {request : List Byte} {row : Row} (hk : request.headD 0 = row.kind) (hrow : row ≠ .unknownRequest) :
    kindEcho request = row.kind := by
  rw [kindEcho, hk]
  exact if_neg (not_or.mpr (Row.kind_ne_marker hrow))

/-! ## The argument length -/

/-- A descriptor is 18 bytes (R186). -/
theorem readDescriptor_eq_none {fields : List Byte} (h : fields.length ≠ 18) : readDescriptor fields = none := by
  unfold readDescriptor
  split
  · exact absurd rfl h
  · rfl

/-- CONFIGURE takes an index and a descriptor (R24, R185). -/
theorem configureBody_wrongLength {args : List Byte} (h : args.length ≠ 19) (p : PortNo) (s : State) :
    configureBody p args s = reject .badArgument := by
  cases args with
  | nil => rfl
  | cons index fields =>
    have hnone : readDescriptor fields = none := readDescriptor_eq_none fun e => h (by rw [List.length_cons, e])
    simp only [configureBody, hnone]
    cases attrOf index <;> rfl

/-- A row's body refuses arguments that are not as many as its kind calls for: it accepts none but lists of that length
(R167, R185). -/
theorem body_wrongLength {row : Row} (hrow : row ≠ .unknownRequest) {args : List Byte}
    (h : args.length ≠ argumentLength row.kind) (p : PortNo) (s : State) : row.body p args s = reject .badArgument := by
  cases row
  case configure => exact configureBody_wrongLength h p s
  case unknownRequest => exact absurd rfl hrow
  all_goals
    simp only [Row.body, statusBody, ackEventsBody, setEventsBody, readClockBody, selectBody, readPostingBody,
      readChangedBody, readWindowsBody, readPassBody, readAttractionBody, setClockBody, frameOpenBody, frameCloseBody,
      clearDayBody, releaseBody, setStateOperatingBody, setStateDownBody, setStateClosedBody, bindBody, unbindBody,
      inquireBody, boardSetBody, boardSetClearBody, boardOverrideBody, entryReportBody, dispatchReportBody,
      queueSetBody, issueEarliestBody, issueAtBody, redeemBody, cancelBody]
    split
    · exact absurd rfl h
    · rfl

end Sys2Proof.Machine

namespace Sys2Proof.Proofs

open Sys2Proof.Machine

/-- Settles O18: the check order of the request in hand, step by step. -/
theorem commonChecks : Obligations.CommonChecks := by
  refine ⟨fun s p request hl ho => ?_, fun s p kind args ⟨request, hl, hh, ho⟩ hkind => ?_,
    fun s p request kind args hl hh ho hkind => ?_⟩
  · rw [exec_inHand hl rfl, judge, ho]
    rfl
  · have hk := headD_of_head? hh
    have hx := exec_inHand hl (rowOf_unknown (hk ▸ hkind))
    rw [judge, ho] at hx
    rw [← hk]
    exact hx
  · have hk := headD_of_head? hh
    obtain ⟨hrow, hmark⟩ := rowOf_known hk (argAt_of_openFrame ho) hkind
    have hknown : rowOf request ≠ .unknownRequest := Row.ne_unknown_of_kind (hrow ▸ hkind)
    have refuses : ∀ c, judge (rowOf request) (rowOf request).body p request s = reject c →
        Refuses ((rowOf request).command p) s p kind c := fun c hj => by
      have hecho := kindEcho_known (hk.trans hrow.symm) hknown
      rw [Refuses, exec_inHand hl rfl, hj, ← hrow, ← hecho]
      rfl
    refine ⟨fun hr => refuses _ ?_, fun hr hlen => refuses _ ?_⟩
    · rw [judge_opened ho hknown, hmark, if_neg (by rw [hr]; exact Bool.false_ne_true)]
    · rw [judge_opened ho hknown, hmark, if_pos hr]
      exact body_wrongLength hknown (hrow ▸ hlen) p s

end Sys2Proof.Proofs
end

section
/-! PROOFS. SELECT: the shadow copied and the flags that follow (R170, R171, R177). -/

namespace Sys2Proof.Machine

/-- With a shadow just copied, STALE alone of a port's flags may move, and is clear (R170, R177). -/
theorem Settled.inMask_followed_shadow {s : State} (h : Settled s) (p : PortNo) (a : AttrNo) (k : EventKind) :
    k.inMask (followedFlags s { s.port p with shadow := some (shadowOf a (s.att a)) }) =
      ((s.port p).has k && decide (k ≠ .stale)) := by
  rw [inMask_followedFlags]
  cases k with
  | stale => simp [staleAt, shadowOf]
  | aged => simp [h.aged p]
  | posting => simp [h.posting p]
  | frame | attraction | window | scan | clock => exact (Bool.and_true _).symm

end Sys2Proof.Machine

namespace Sys2Proof.Proofs

open Sys2Proof.Machine

/-- Settles O21: the shadow copied, after which STALE is not due and every other flag is as it was. -/
theorem select : Obligations.Select := by
  intro s p index hs hsent
  have ht : Takes .select s p [index] := takes_any hsent rfl fun _ => rfl
  refine ⟨fun h => ht.refuses ?_, fun a hi => ⟨fun h => ht.refuses ?_, fun h => ?_⟩⟩
  · simp [Row.body, selectBody, attrOf_none h]
  · simp [Row.body, selectBody, hi, h]
  · subst hi
    refine ⟨followedFlags s { s.port p with shadow := some (shadowOf a (s.att a)) }, hs.inMask_followed_shadow p a, ?_⟩
    have hbody : Row.select.body p [byte a.val] s =
        accept (s.updPort p fun q => { q with shadow := some (shadowOf a (s.att a)) })
          (shadowBytes (shadowOf a (s.att a))) := by
      simp [Row.body, selectBody, h]
    exact (ht.exec hbody).trans (by rw [hs.settle_updPort]; rfl)

end Sys2Proof.Proofs
end

section
/-! PROOFS. ACK_EVENTS, SET_EVENTS and ATTN: the flags named and cleared, the masks replaced, the signal driven (R177 to
R181). -/

namespace Sys2Proof.Machine

/-! ## Event bytes -/

/-- A byte is 0 exactly where it has none of the eight flags. -/
theorem byte_eq_zero_iff (b : Byte) : b = 0 ↔ ∀ k : EventKind, k.inMask b = false := by
  constructor
  · rintro rfl k
    exact inMask_zero k
  · intro h
    exact byte_eq_of_inMask fun k => (h k).trans (inMask_zero k).symm

/-- Two event bytes meet exactly where some kind has its flag in both. -/
theorem and_ne_zero_iff (a b : Byte) : (a &&& b) ≠ 0 ↔ ∃ k : EventKind, k.inMask a = true ∧ k.inMask b = true := by
  simp only [ne_eq, byte_eq_zero_iff, inMask_and, not_forall, Bool.not_eq_false, Bool.and_eq_true]

/-! ## ACK_EVENTS -/

/-- A port whose flags named in a mask are cleared, before the level-type ones follow (R178). -/
def Port.cleared (q : Port) (mask : Byte) : Port := { q with flags := q.flags &&& ~~~mask }

theorem Port.has_cleared (q : Port) (mask : Byte) (k : EventKind) :
    (q.cleared mask).has k = (q.has k && !k.inMask mask) := by
  simp only [Port.has, Port.cleared, inMask_and, inMask_not]

/-- Of the flags cleared in a settled part, those of level type come back with their conditions (R177, R178). -/
theorem Settled.inMask_followed_cleared {s : State} (h : Settled s) (p : PortNo) (mask : Byte) (k : EventKind) :
    k.inMask (followedFlags s ((s.port p).cleared mask)) = ((s.port p).has k && (!k.inMask mask || !k.edge)) := by
  have hlevel : ∀ j : EventKind, j.edge = false →
      ((s.port p).has j && (!j.inMask mask || !j.edge)) = (s.port p).has j := fun j hj => by simp [hj]
  have hedge : ∀ j : EventKind, j.edge = true →
      ((s.port p).has j && (!j.inMask mask || !j.edge)) = ((s.port p).cleared mask).has j :=
    fun j hj => by simp [Port.has_cleared, hj]
  rw [inMask_followedFlags]
  cases k with
  | stale => exact ((hlevel .stale rfl).trans (h.stale p)).symm
  | aged => exact ((hlevel .aged rfl).trans (h.aged p)).symm
  | posting => exact ((hlevel .posting rfl).trans (h.posting p)).symm
  | frame | attraction | window | scan | clock => exact (hedge _ rfl).symm

/-- Clearing flags and settling leaves, of a settled part, the sending port's flags as they follow and the rest as it was
(R178). -/
theorem Settled.settle_cleared {s : State} (h : Settled s) (p : PortNo) (mask : Byte) :
    settle (s.updPort p fun q => q.cleared mask) =
      s.updPort p fun q => { q with flags := followedFlags s ((s.port p).cleared mask) } :=
  h.settle_updPort p _

/-- ACK_EVENTS in a settled part: the sending port's flags alone move, and the reply shows them as they then stand (R178,
R180). -/
theorem Settled.ackEventsBody_eq {s : State} (h : Settled s) (p : PortNo) (mask : Byte) :
    ackEventsBody p [mask] s =
      accept (s.updPort p fun q => { q with flags := followedFlags s ((s.port p).cleared mask) })
        [followedFlags s ((s.port p).cleared mask),
          byte (leadingEvent { s.port p with flags := followedFlags s ((s.port p).cleared mask) })] := by
  have hbody : ∀ t, settle (s.updPort p fun q => q.cleared mask) = t →
      ackEventsBody p [mask] s = accept t [(t.port p).flags, byte (leadingEvent (t.port p))] := by
    rintro _ rfl
    rfl
  rw [hbody _ (h.settle_cleared p mask), port_updPort_self]

/-- What ACK_EVENTS leaves of a settled part is settled. -/
theorem Settled.acknowledged {s : State} (h : Settled s) (p : PortNo) (mask : Byte) :
    Settled (s.updPort p fun q => { q with flags := followedFlags s ((s.port p).cleared mask) }) := by
  rw [← h.settle_cleared]
  exact settled_settle _

/-! ## SET_EVENTS -/

/-- The masks of a port may be replaced without a flag of a settled part moving (R179). -/
theorem Settled.settle_masksReplaced {s : State} (h : Settled s) (p : PortNo) (enable level : Byte) :
    settle (s.updPort p fun q => { q with enable := enable, level := level }) =
      s.updPort p fun q => { q with enable := enable, level := level } := by
  have hflags : followedFlags s { s.port p with enable := enable, level := level } = (s.port p).flags := h.followed p
  rw [h.settle_updPort]
  simp only [State.updPort, hflags]

/-! ## ATTN -/

/-- ATTN is driven while an enabled flag is set, unless the port is WORKING (R181). -/
theorem attn_iff (q : Port) :
    q.attn = true ↔ (∃ k : EventKind, q.has k = true ∧ k.inMask q.enable = true) ∧
      (q.link = .idle ∨ ∃ reply, q.link = .ready reply) := by
  have hbyte : ((q.flags &&& q.enable) != 0) = true ↔ ∃ k : EventKind, q.has k = true ∧ k.inMask q.enable = true := by
    rw [bne_iff_ne]
    exact and_ne_zero_iff _ _
  unfold Port.attn
  rw [Bool.and_eq_true, hbyte]
  cases q.link <;> simp

end Sys2Proof.Machine

namespace Sys2Proof.Proofs

open Sys2Proof.Machine

/-- Settles O20: the flags that follow the acknowledgement, the masks that no flag depends on, and ATTN flag by flag. -/
theorem ackAndSetEvents : Obligations.AckAndSetEvents := by
  refine ⟨fun s p mask hs hsent => ?_, fun s p enable level hs hsent => ?_, fun s p => attn_iff (s.port p)⟩
  · have ht : Takes .ackEvents s p [mask] := takes_any hsent rfl fun _ => rfl
    exact ⟨followedFlags s ((s.port p).cleared mask), _, hs.inMask_followed_cleared p mask, leadingEvent_leads _,
      ht.grants (hs.ackEventsBody_eq p mask) (hs.acknowledged p mask)⟩
  · have ht : Takes .setEvents s p [enable, level] := takes_any hsent rfl fun _ => rfl
    exact (ht.exec rfl).trans (by rw [hs.settle_masksReplaced]; rfl)

end Sys2Proof.Proofs
end
